-- ==== Sys2Proof/Word.lean ====
section
/-!
DEFINITION. The bit vectors of the block: bytes and command words.
-/
namespace Sys2Proof

/-- `DATA_WIDTH` = 8: the width of every register, FIFO element and bus datum, and `OFFSET_WIDTH` = 8: the
width of a register offset (00_scope.md R7). Bit 0 is the least significant bit (R8). -/
abbrev Byte := BitVec 8

/-- The 20-bit command word `cmd[19:0]` (30_encoding.md R61). -/
abbrev CommandWord := BitVec 20

end Sys2Proof
end

