-- ==== Sys2Proof/Config.lean ====
section
/-!
DEFINITION. The parameters of the block, each under the name 00_scope.md R7 gives it and with the value this
hardware takes, and the free values the spec leaves open (no body: nothing can evaluate them).
-/
namespace Sys2Proof.Config

/-- `CAPACITY`: slots in each FIFO's circular array. -/
abbrev capacity : Nat := 16

/-- `USABLE`: the most bytes a FIFO holds at once. -/
abbrev usable : Nat := capacity - 1

/-- `RX_EMPTY_VALUE`: what a dequeue of the empty receive FIFO returns. -/
def rxEmptyValue : Byte := 0xFF

/-- `TX_EMPTY_VALUE`: what a dequeue of the empty transmit FIFO returns. -/
def txEmptyValue : Byte := 0x00

/-- `UNMAPPED_READ_VALUE`: what a read of an unrecognized offset returns; a parameter apart from
`RX_EMPTY_VALUE`, which happens to be equal (90_conflicts.md C8). -/
def unmappedReadValue : Byte := 0xFF

/-- `OFF_DATA`: RBR (read) and THR (write). -/
def offData : Byte := 0x00
/-- `OFF_IER`. -/
def offIER : Byte := 0x01
/-- `OFF_IIR_FCR`: IIR (read) and FCR (write). -/
def offIIRFCR : Byte := 0x02
/-- `OFF_LCR`. -/
def offLCR : Byte := 0x03
/-- `OFF_MCR`. -/
def offMCR : Byte := 0x04
/-- `OFF_LSR`. -/
def offLSR : Byte := 0x05
/-- `OFF_MSR`. -/
def offMSR : Byte := 0x06
/-- `OFF_SCR`. -/
def offSCR : Byte := 0x07

/-- `LSR_DR_BIT`, receive-data-ready. -/
def lsrDRBit : Nat := 0
/-- `LSR_THRE_BIT`, transmit-holding-empty. -/
def lsrTHREBit : Nat := 5
/-- `LSR_TEMT_BIT`, transmit-FIFO-empty. -/
def lsrTEMTBit : Nat := 6

/-- `RESET_IER`. -/
def resetIER : Byte := 0x00
/-- `RESET_IIR`, "no interrupt pending". -/
def resetIIR : Byte := 0x01
/-- `RESET_FCR`. -/
def resetFCR : Byte := 0x00
/-- `RESET_LCR`. -/
def resetLCR : Byte := 0x00
/-- `RESET_MCR`. -/
def resetMCR : Byte := 0x00
/-- `RESET_MSR`. -/
def resetMSR : Byte := 0x00
/-- `RESET_SCR`. -/
def resetSCR : Byte := 0x00

/-- What a cleared FIFO slot holds (10_state.md R16: `INIT` and `TEARDOWN` set every slot to 0x00). -/
def clearedSlot : Byte := 0x00

/-- The default of the parameter `PRELOAD`: empty. The parameter itself is the field `preload` of State (log 5). -/
def defaultPreload : List Byte := []

/-- `BASE`, the bus address of offset 0x00: open, used by no rule (20_memory.md R42; log 15). -/
opaque base : Nat

/-- The `n`-th unspecified byte: a register byte after `TEARDOWN` is any byte (45_lifecycle_diag.md R131,
10_state.md R36). DESIGN CHOICE, safe: a free value, no body (log 6). -/
opaque freeByte : Nat → Byte

end Sys2Proof.Config
end

