-- ==== Sys2Proof/Machine/State.lean ====
section
/-!
DEFINITION. The state of one block (10_state.md R10), the model's own fields beside it, the reasons a step can stop,
and the state after reset.
-/
namespace Sys2Proof.Machine

/-- The two lifecycle states, "exactly two" (10_state.md R11). -/
inductive Life
  | uninitialized
  | ready
  deriving DecidableEq, Repr

/-- A FIFO's read or write cursor, 0..15 (10_state.md R13; log 14). -/
abbrev Cursor := Fin Config.capacity

/-- A FIFO: a circular array, the slot the next dequeue reads, the slot the next enqueue writes; no count
(10_state.md R12). -/
structure Fifo where
  buf : Vector Byte Config.capacity
  head : Cursor
  tail : Cursor
  deriving DecidableEq, Repr

/-- Both cursors at 0 and contents cleared (10_state.md R16, R35). -/
def Fifo.cleared : Fifo := { buf := Vector.replicate Config.capacity Config.clearedSlot, head := 0, tail := 0 }

/-- The seven stored registers, the only registers of the block (10_state.md R19). -/
inductive Reg
  | IER | IIR | FCR | LCR | MCR | MSR | SCR
  deriving DecidableEq, Repr

/-- What an operation returns: nothing, one byte, or `FSTAT`'s pair, receive count first (30_encoding.md R63;
45_lifecycle_diag.md R132). -/
inductive Result
  | nothing
  | byte (v : Byte)
  | counts (receive transmit : Nat)
  deriving DecidableEq, Repr

/-- What the outside asks of the block (log 2): an operation by its command word (30_encoding.md R61), or a bus
transfer of `n` bytes at an offset, in the notation `MemRead(off, n)` and `MemWrite(off, n, v)` of 00_scope.md R8. -/
inductive Request
  | command (c : CommandWord)
  | memRead (off : Byte) (n : Nat)
  | memWrite (off : Byte) (bytes : List Byte)
  deriving DecidableEq, Repr

/-- The whole state of one block. `life` to `SCR` are the record of 10_state.md R10, complete. `sink` is the output
stream of R33, an observation; `result` is what the latest operation returned (log 3); `preload` is the parameter
`PRELOAD` (log 5); `requests` (log 2) and `freeDraws` (log 6) are the model's own. -/
structure State where
  life : Life
  rx : Fifo
  tx : Fifo
  IER : Byte
  IIR : Byte
  FCR : Byte
  LCR : Byte
  MCR : Byte
  MSR : Byte
  SCR : Byte
  /-- bytes handed to the output sink, oldest first -/
  sink : List Byte
  /-- what the latest completed operation returned -/
  result : Result
  /-- the bytes `INIT` puts into the receive FIFO; no operation writes it -/
  preload : List Byte
  /-- the operations the outside will invoke, the next one first -/
  requests : List Request
  /-- how many free values have been drawn; the next is `Config.freeByte freeDraws` -/
  freeDraws : Nat
  deriving DecidableEq, Repr

/-- No operation of this block faults: "the set of cause codes is empty" (60_exceptions.md R140). An empty type: no
meaning raises a fault (log 13). -/
inductive Fault
  deriving DecidableEq, Repr

/-- Where the spec gives no meaning. None of these is a behaviour of the hardware (60_exceptions.md R141). -/
inductive Refusal
  /-- Raised by no arm of this model: an instruction that has no meaning yet, by mnemonic. Safe. -/
  | notModelled (mnemonic : String)
  /-- Raised by every operation except `INIT` and `TEARDOWN` while `life` is `uninitialized`
  (45_lifecycle_diag.md R134). Safe. -/
  | uninitialized
  /-- Raised by the three reserved rows, whose words name no operation (30_encoding.md R66). Safe. -/
  | reservedWord
  /-- Raised by the fetch of a bus transfer of any number of bytes other than one (20_memory.md R43). Safe. -/
  | notOneByte
  deriving DecidableEq, Repr

/-- The outcome of an operation. -/
abbrev Outcome := Host.Outcome State Fault Refusal

/-- The state right after reset: `INIT` is the block's one reset (70_reset_and_hazards.md R161) and leaves the state
of 10_state.md R35, here with the default empty `PRELOAD` (log 1). -/
def State.reset : State where
  life := .ready
  rx := Fifo.cleared
  tx := Fifo.cleared
  IER := Config.resetIER
  IIR := Config.resetIIR
  FCR := Config.resetFCR
  LCR := Config.resetLCR
  MCR := Config.resetMCR
  MSR := Config.resetMSR
  SCR := Config.resetSCR
  sink := []
  result := .nothing
  preload := Config.defaultPreload
  requests := []
  freeDraws := 0

/-- A state at power-on, before the first `INIT`: `Uninitialized`, an empty sink, and every other component whatever
it is in an arbitrary state `any` (10_state.md R33, R36; 70_reset_and_hazards.md R160; log 7). -/
def State.powerOn (any : State) : State := { any with life := .uninitialized, sink := [] }

end Sys2Proof.Machine
end

