-- ==== Sys2Proof/Machine/Flags.lean ====
section
/-!
DEFINITION. The computed status bits (10_state.md R28): functions of the state, never stored. The FIFO predicates
and count (40_fifo_engine.md R82 to R84) and the line status logic (41_lsr_status_logic.md R90).
-/
namespace Sys2Proof.Machine

/-- `(c + 1) mod CAPACITY`, the only motion of a cursor (40_fifo_engine.md R88). -/
def advance (c : Cursor) : Cursor := ⟨(c.val + 1) % Config.capacity, Nat.mod_lt _ (by decide)⟩

/-- `is_empty(F)` (40_fifo_engine.md R83). -/
def Fifo.isEmpty (F : Fifo) : Bool := decide (F.head = F.tail)

/-- `is_full(F)` (40_fifo_engine.md R84). -/
def Fifo.isFull (F : Fifo) : Bool := decide (advance F.tail = F.head)

/-- `occupied_count(F)` = `(F.tail - F.head + CAPACITY) mod CAPACITY`, on integers (40_fifo_engine.md R82). -/
def Fifo.occupiedCount (F : Fifo) : Nat :=
  (((F.tail.val : Int) - (F.head.val : Int) + (Config.capacity : Int)) % (Config.capacity : Int)).toNat

/-- LSR bit 0, receive-data-ready: the receive FIFO is not empty (41_lsr_status_logic.md R91). -/
def dataReady (s : State) : Bool := !s.rx.isEmpty

/-- LSR bit 5, transmit-holding-empty: always set (41_lsr_status_logic.md R92). -/
def transmitHoldingEmpty (_s : State) : Bool := true

/-- LSR bit 6, transmit-FIFO-empty: always set, whatever the transmit FIFO holds (41_lsr_status_logic.md R92;
90_conflicts.md C5). -/
def transmitFifoEmpty (_s : State) : Bool := true

/-- A byte with one flag at one bit position. -/
def flagAt (b : Bool) (bit : Nat) : Byte := (BitVec.ofBool b).setWidth 8 <<< bit

/-- The LSR value (41_lsr_status_logic.md R90): three flags at their positions, every other bit 0 (R93). -/
def lsr (s : State) : Byte :=
  flagAt (transmitFifoEmpty s) Config.lsrTEMTBit ||| flagAt (transmitHoldingEmpty s) Config.lsrTHREBit |||
    flagAt (dataReady s) Config.lsrDRBit

end Sys2Proof.Machine
end

