-- ==== Sys2Proof/Machine/Ops.lean ====
section
/-!
DEFINITION. The named operations over FIFOs, registers, results and the sink, which every meaning is built from.
The block takes no exception and returns from none (60_exceptions.md R140, R145, R146): there is no such operation.
-/
namespace Sys2Proof.Machine

/-! The FIFO engine (40_fifo_engine.md). -/

/-- `enqueue(F, b)` (R80): a full FIFO drops the byte. -/
def Fifo.enqueue (F : Fifo) (b : Byte) : Fifo :=
  if F.isFull then F else { F with buf := F.buf.set F.tail.val b, tail := advance F.tail }

/-- `dequeue(F, sentinel)` (R81): the byte returned and the FIFO afterwards; the slot read keeps its value. -/
def Fifo.dequeue (F : Fifo) (sentinel : Byte) : Byte × Fifo :=
  if F.isEmpty then (sentinel, F) else (F.buf[F.head.val], { F with head := advance F.head })

/-- The slot at a position counted round the circular array. -/
def Fifo.slot (F : Fifo) (i : Nat) : Byte := F.buf[i % Config.capacity]'(Nat.mod_lt _ (by decide))

/-- `pending(F)`: the bytes enqueued and not yet dequeued, oldest first (10_state.md R17). -/
def Fifo.pending (F : Fifo) : List Byte := (List.range F.occupiedCount).map fun i => F.slot (F.head.val + i)

/-- A cleared FIFO with bytes enqueued, first to last: what `INIT` makes of the receive FIFO
(45_lifecycle_diag.md R130). -/
def Fifo.loaded (bytes : List Byte) : Fifo := bytes.foldl Fifo.enqueue Fifo.cleared

/-! Registers: each has one home, a field of State, and these two accessors. -/

/-- `S.r`. -/
def State.readReg (s : State) : Reg → Byte
  | .IER => s.IER
  | .IIR => s.IIR
  | .FCR => s.FCR
  | .LCR => s.LCR
  | .MCR => s.MCR
  | .MSR => s.MSR
  | .SCR => s.SCR

/-- `S.r <- v`, all eight bits (30_encoding.md R71). -/
def State.writeReg (s : State) (r : Reg) (v : Byte) : State :=
  match r with
  | .IER => { s with IER := v }
  | .IIR => { s with IIR := v }
  | .FCR => { s with FCR := v }
  | .LCR => { s with LCR := v }
  | .MCR => { s with MCR := v }
  | .MSR => { s with MSR := v }
  | .SCR => { s with SCR := v }

/-! Updates of the other components. -/

def State.setLife (s : State) (l : Life) : State := { s with life := l }

def State.setRx (s : State) (F : Fifo) : State := { s with rx := F }

def State.setTx (s : State) (F : Fifo) : State := { s with tx := F }

/-- `sink_emit(b)`: `sink <- sink ++ [b]` (10_state.md R33). -/
def State.sinkEmit (s : State) (b : Byte) : State := { s with sink := s.sink ++ [b] }

/-- Record what the operation returns. -/
def State.setResult (s : State) (r : Result) : State := { s with result := r }

/-- Write seven free values to the seven registers (45_lifecycle_diag.md R131; log 6). -/
def State.drawRegisters (s : State) : State :=
  { s with
    IER := Config.freeByte s.freeDraws
    IIR := Config.freeByte (s.freeDraws + 1)
    FCR := Config.freeByte (s.freeDraws + 2)
    LCR := Config.freeByte (s.freeDraws + 3)
    MCR := Config.freeByte (s.freeDraws + 4)
    MSR := Config.freeByte (s.freeDraws + 5)
    SCR := Config.freeByte (s.freeDraws + 6)
    freeDraws := s.freeDraws + 7 }

/-- Write the reset values to the seven registers (45_lifecycle_diag.md R130). -/
def State.resetRegisters (s : State) : State :=
  { s with
    IER := Config.resetIER
    IIR := Config.resetIIR
    FCR := Config.resetFCR
    LCR := Config.resetLCR
    MCR := Config.resetMCR
    MSR := Config.resetMSR
    SCR := Config.resetSCR }

/-! What an operation does at one end of a FIFO. -/

/-- Dequeue the receive FIFO and return the byte, `RX_EMPTY_VALUE` when empty (40_fifo_engine.md R81). -/
def State.popRx (s : State) : State :=
  (s.setRx (s.rx.dequeue Config.rxEmptyValue).2).setResult (.byte (s.rx.dequeue Config.rxEmptyValue).1)

/-- Dequeue the transmit FIFO and return the byte, `TX_EMPTY_VALUE` when empty (40_fifo_engine.md R81). -/
def State.popTx (s : State) : State :=
  (s.setTx (s.tx.dequeue Config.txEmptyValue).2).setResult (.byte (s.tx.dequeue Config.txEmptyValue).1)

/-- Enqueue into the receive FIFO. -/
def State.pushRx (s : State) (v : Byte) : State := s.setRx (s.rx.enqueue v)

/-- Enqueue into the transmit FIFO. -/
def State.pushTx (s : State) (v : Byte) : State := s.setTx (s.tx.enqueue v)

/-! How an operation ends. -/

/-- The operation completes in `t` if the block is Ready, and is refused with no state change if it is not
(45_lifecycle_diag.md R133, R134). -/
def whenReady (s t : State) : Outcome :=
  match s.life with
  | .ready => .next t
  | .uninitialized => .refused .uninitialized

/-- A read that changes nothing and returns `v`. -/
def returnByte (v : Byte) (s : State) : Outcome := whenReady s (s.setResult (.byte v))

/-- An operation that leaves `t` and returns nothing. -/
def returnNothing (s t : State) : Outcome := whenReady s (t.setResult .nothing)

/-- The refusal of a reserved command word, in every state (30_encoding.md R66). -/
def refuseReserved (_s : State) : Outcome := .refused .reservedWord

/-- With no operation invoked nothing happens: "the component never initiates its own events" (00_scope.md R3;
log 2). -/
def idle (s : State) : Outcome := .next s

end Sys2Proof.Machine
end

