-- ==== Sys2Proof/Machine/FifoPorts.lean ====
section
/-!
DEFINITION. Line-side and byte-level access to the FIFOs (44_line_byte_ports.md). No clock is read and nothing here
depends on time (R124).
-/
namespace Sys2Proof.Machine

/-- `RXPUSH v`: enqueue into the receive FIFO; a dropped byte is recorded nowhere (R120). -/
def execRxpush (v : Byte) (s : State) : Outcome := returnNothing s (s.pushRx v)

/-- `TXPOP`: dequeue from the transmit FIFO; the byte was sent to the sink when it was written, not now (R121). -/
def execTxpop (s : State) : Outcome := whenReady s s.popTx

/-- `BRD`: the state change and result of `RD 0x00`, reached without offset dispatch (R122). -/
def execBrd (s : State) : Outcome := whenReady s s.popRx

/-- `BWR v`: enqueue into the transmit FIFO, with nothing handed to the sink (R123). -/
def execBwr (v : Byte) (s : State) : Outcome := returnNothing s (s.pushTx v)

end Sys2Proof.Machine
end

