-- ==== Sys2Proof/Machine/Lifecycle.lean ====
section
/-!
DEFINITION. Lifecycle and diagnostic operations (45_lifecycle_diag.md). `INIT` and `TEARDOWN` are the two operations
with a meaning in both lifecycle states (R133).
-/
namespace Sys2Proof.Machine

/-- `INIT`: both FIFOs cleared, the seven registers at their reset values, the preload enqueued into the receive FIFO
first byte first, `Ready`; the sink is not touched (R130). -/
def execInit (s : State) : Outcome :=
  .next ((((s.setRx (Fifo.loaded s.preload)).setTx Fifo.cleared).resetRegisters.setLife .ready).setResult .nothing)

/-- `TEARDOWN`: both FIFOs cleared, the seven registers unspecified, `Uninitialized`; the sink is not touched
(R131). -/
def execTeardown (s : State) : Outcome :=
  .next ((((s.setRx Fifo.cleared).setTx Fifo.cleared).drawRegisters.setLife .uninitialized).setResult .nothing)

/-- `FSTAT`: the two occupancy counts, receive count first; changes nothing (R132). -/
def execFstat (s : State) : Outcome :=
  whenReady s (s.setResult (.counts s.rx.occupiedCount s.tx.occupiedCount))

end Sys2Proof.Machine
end

