-- ==== Sys2Proof/Machine/RegisterRead.lean ====
section
/-!
DEFINITION. Register reads (42_register_read.md): one meaning per read operation. Each answers one byte; only the
read of RBR changes state.
-/
namespace Sys2Proof.Machine

/-- `RD 0x00`: dequeue from the receive FIFO (R101). -/
def execRdRbr (s : State) : Outcome := whenReady s s.popRx

/-- `RD 0x01` (R102). -/
def execRdIer (s : State) : Outcome := returnByte (s.readReg .IER) s

/-- `RD 0x02`: IIR, never the FCR byte (R103; 90_conflicts.md C2). -/
def execRdIir (s : State) : Outcome := returnByte (s.readReg .IIR) s

/-- `RD 0x03` (R104). -/
def execRdLcr (s : State) : Outcome := returnByte (s.readReg .LCR) s

/-- `RD 0x04` (R105). -/
def execRdMcr (s : State) : Outcome := returnByte (s.readReg .MCR) s

/-- `RD 0x05`: computed at the read, never stored; clears nothing (R106; 41_lsr_status_logic.md R94). -/
def execRdLsr (s : State) : Outcome := returnByte (lsr s) s

/-- `RD 0x06`: clears nothing (R107). -/
def execRdMsr (s : State) : Outcome := returnByte (s.readReg .MSR) s

/-- `RD 0x07` (R108). -/
def execRdScr (s : State) : Outcome := returnByte (s.readReg .SCR) s

/-- `RD off`, off in 0x08..0x0F: no such register (R109). -/
def execRdUnmapped08 (_off : Byte) (s : State) : Outcome := returnByte Config.unmappedReadValue s

/-- `RD off`, off in 0x10..0x1F: no such register (R109). -/
def execRdUnmapped10 (_off : Byte) (s : State) : Outcome := returnByte Config.unmappedReadValue s

/-- `RD off`, off in 0x20..0x3F: no such register (R109). -/
def execRdUnmapped20 (_off : Byte) (s : State) : Outcome := returnByte Config.unmappedReadValue s

/-- `RD off`, off in 0x40..0x7F: no such register (R109). -/
def execRdUnmapped40 (_off : Byte) (s : State) : Outcome := returnByte Config.unmappedReadValue s

/-- `RD off`, off in 0x80..0xFF: no such register (R109). -/
def execRdUnmapped80 (_off : Byte) (s : State) : Outcome := returnByte Config.unmappedReadValue s

end Sys2Proof.Machine
end

