-- ==== Sys2Proof/Machine/RegisterWrite.lean ====
section
/-!
DEFINITION. Register writes (43_register_write.md): one meaning per write operation. None returns a value, none is
rejected, no bit of the data byte is masked.
-/
namespace Sys2Proof.Machine

/-- `WR 0x00, v`: enqueue into the transmit FIFO, where the byte stays until it is popped or cleared, and hand it to
the sink whether or not there was room (R111; 90_conflicts.md C1). -/
def execWrThr (v : Byte) (s : State) : Outcome := returnNothing s ((s.pushTx v).sinkEmit v)

/-- `WR 0x01, v` (R112). -/
def execWrIer (v : Byte) (s : State) : Outcome := returnNothing s (s.writeReg .IER v)

/-- `WR 0x02, v`: recorded in FCR, with no effect on the FIFOs or on IIR (R113; 90_conflicts.md C2). -/
def execWrFcr (v : Byte) (s : State) : Outcome := returnNothing s (s.writeReg .FCR v)

/-- `WR 0x03, v` (R114). -/
def execWrLcr (v : Byte) (s : State) : Outcome := returnNothing s (s.writeReg .LCR v)

/-- `WR 0x04, v` (R115). -/
def execWrMcr (v : Byte) (s : State) : Outcome := returnNothing s (s.writeReg .MCR v)

/-- `WR 0x05, v`: accepted, no effect (R116). -/
def execWrLsr (_v : Byte) (s : State) : Outcome := returnNothing s s

/-- `WR 0x06, v`: accepted, discarded (R117). -/
def execWrMsr (_v : Byte) (s : State) : Outcome := returnNothing s s

/-- `WR 0x07, v` (R118). -/
def execWrScr (v : Byte) (s : State) : Outcome := returnNothing s (s.writeReg .SCR v)

/-- `WR off, v`, off in 0x08..0x0F: discarded (R119). -/
def execWrUnmapped08 (_off _v : Byte) (s : State) : Outcome := returnNothing s s

/-- `WR off, v`, off in 0x10..0x1F: discarded (R119). -/
def execWrUnmapped10 (_off _v : Byte) (s : State) : Outcome := returnNothing s s

/-- `WR off, v`, off in 0x20..0x3F: discarded (R119). -/
def execWrUnmapped20 (_off _v : Byte) (s : State) : Outcome := returnNothing s s

/-- `WR off, v`, off in 0x40..0x7F: discarded (R119). -/
def execWrUnmapped40 (_off _v : Byte) (s : State) : Outcome := returnNothing s s

/-- `WR off, v`, off in 0x80..0xFF: discarded (R119). -/
def execWrUnmapped80 (_off _v : Byte) (s : State) : Outcome := returnNothing s s

end Sys2Proof.Machine
end

