-- ==== Sys2Proof/Machine/Reserved.lean ====
section
/-!
DEFINITION. The reserved command words (30_encoding.md R66): they name no operation of the hardware, a model refuses
them, they change no state.
-/
namespace Sys2Proof.Machine

/-- Port 3 with `w` = 1 (R66). -/
def execReservedDiagW (s : State) : Outcome := refuseReserved s

/-- Port 5 (R66). -/
def execReservedPort5 (s : State) : Outcome := refuseReserved s

/-- Port 6 or 7 (R66). -/
def execReservedPort67 (s : State) : Outcome := refuseReserved s

end Sys2Proof.Machine
end

