-- ==== Sys2Proof/Syntax.lean ====
section
/-!
DEFINITION. The operations of the block as syntax: one constructor per row of the opcode table.
-/
namespace Sys2Proof

/-- The externally invoked operations (30_encoding.md R64) and the reserved command words (R66), one constructor
per row of the opcode table. A field the operation ignores (R67) is no operand. `off` is the register offset
`cmd[15:8]`, `v` the data byte `cmd[7:0]` (R63). -/
inductive Instr
  /-- RD_RBR: `RD 0x00` -/
  | rdRbr
  /-- RD_IER: `RD 0x01` -/
  | rdIer
  /-- RD_IIR: `RD 0x02` -/
  | rdIir
  /-- RD_LCR: `RD 0x03` -/
  | rdLcr
  /-- RD_MCR: `RD 0x04` -/
  | rdMcr
  /-- RD_LSR: `RD 0x05` -/
  | rdLsr
  /-- RD_MSR: `RD 0x06` -/
  | rdMsr
  /-- RD_SCR: `RD 0x07` -/
  | rdScr
  /-- RD_UNMAPPED_08_0F: `RD off`, off in 0x08..0x0F -/
  | rdUnmapped08 (off : Byte)
  /-- RD_UNMAPPED_10_1F: `RD off`, off in 0x10..0x1F -/
  | rdUnmapped10 (off : Byte)
  /-- RD_UNMAPPED_20_3F: `RD off`, off in 0x20..0x3F -/
  | rdUnmapped20 (off : Byte)
  /-- RD_UNMAPPED_40_7F: `RD off`, off in 0x40..0x7F -/
  | rdUnmapped40 (off : Byte)
  /-- RD_UNMAPPED_80_FF: `RD off`, off in 0x80..0xFF -/
  | rdUnmapped80 (off : Byte)
  /-- WR_THR: `WR 0x00, v` -/
  | wrThr (v : Byte)
  /-- WR_IER: `WR 0x01, v` -/
  | wrIer (v : Byte)
  /-- WR_FCR: `WR 0x02, v` -/
  | wrFcr (v : Byte)
  /-- WR_LCR: `WR 0x03, v` -/
  | wrLcr (v : Byte)
  /-- WR_MCR: `WR 0x04, v` -/
  | wrMcr (v : Byte)
  /-- WR_LSR: `WR 0x05, v` -/
  | wrLsr (v : Byte)
  /-- WR_MSR: `WR 0x06, v` -/
  | wrMsr (v : Byte)
  /-- WR_SCR: `WR 0x07, v` -/
  | wrScr (v : Byte)
  /-- WR_UNMAPPED_08_0F: `WR off, v`, off in 0x08..0x0F -/
  | wrUnmapped08 (off v : Byte)
  /-- WR_UNMAPPED_10_1F: `WR off, v`, off in 0x10..0x1F -/
  | wrUnmapped10 (off v : Byte)
  /-- WR_UNMAPPED_20_3F: `WR off, v`, off in 0x20..0x3F -/
  | wrUnmapped20 (off v : Byte)
  /-- WR_UNMAPPED_40_7F: `WR off, v`, off in 0x40..0x7F -/
  | wrUnmapped40 (off v : Byte)
  /-- WR_UNMAPPED_80_FF: `WR off, v`, off in 0x80..0xFF -/
  | wrUnmapped80 (off v : Byte)
  /-- TXPOP: dequeue from the transmit FIFO -/
  | txpop
  /-- RXPUSH: enqueue `v` into the receive FIFO -/
  | rxpush (v : Byte)
  /-- TEARDOWN -/
  | teardown
  /-- INIT: the preload comes from the parameter `PRELOAD`, not from the word -/
  | init
  /-- FSTAT -/
  | fstat
  /-- RESERVED_DIAG_W: names no operation (R66) -/
  | reservedDiagW
  /-- BRD: "read next received byte" -/
  | brd
  /-- BWR: "write one byte to transmit" -/
  | bwr (v : Byte)
  /-- RESERVED_PORT5: names no operation (R66) -/
  | reservedPort5
  /-- RESERVED_PORT67: names no operation (R66) -/
  | reservedPort67
  deriving DecidableEq, Repr

end Sys2Proof
end

