-- ==== Sys2Proof/Machine/Dispatch.lean ====
section
/-!
DEFINITION. The dispatch from an operation to its meaning (30_encoding.md R64), one arm per constructor.
-/
namespace Sys2Proof.Machine

def exec (i : Instr) (s : State) : Host.Outcome State Fault Refusal :=
  match i with
  | .rdRbr => Sys2Proof.Machine.execRdRbr s
  | .rdIer => Sys2Proof.Machine.execRdIer s
  | .rdIir => Sys2Proof.Machine.execRdIir s
  | .rdLcr => Sys2Proof.Machine.execRdLcr s
  | .rdMcr => Sys2Proof.Machine.execRdMcr s
  | .rdLsr => Sys2Proof.Machine.execRdLsr s
  | .rdMsr => Sys2Proof.Machine.execRdMsr s
  | .rdScr => Sys2Proof.Machine.execRdScr s
  | .rdUnmapped08 off => Sys2Proof.Machine.execRdUnmapped08 off s
  | .rdUnmapped10 off => Sys2Proof.Machine.execRdUnmapped10 off s
  | .rdUnmapped20 off => Sys2Proof.Machine.execRdUnmapped20 off s
  | .rdUnmapped40 off => Sys2Proof.Machine.execRdUnmapped40 off s
  | .rdUnmapped80 off => Sys2Proof.Machine.execRdUnmapped80 off s
  | .wrThr v => Sys2Proof.Machine.execWrThr v s
  | .wrIer v => Sys2Proof.Machine.execWrIer v s
  | .wrFcr v => Sys2Proof.Machine.execWrFcr v s
  | .wrLcr v => Sys2Proof.Machine.execWrLcr v s
  | .wrMcr v => Sys2Proof.Machine.execWrMcr v s
  | .wrLsr v => Sys2Proof.Machine.execWrLsr v s
  | .wrMsr v => Sys2Proof.Machine.execWrMsr v s
  | .wrScr v => Sys2Proof.Machine.execWrScr v s
  | .wrUnmapped08 off v => Sys2Proof.Machine.execWrUnmapped08 off v s
  | .wrUnmapped10 off v => Sys2Proof.Machine.execWrUnmapped10 off v s
  | .wrUnmapped20 off v => Sys2Proof.Machine.execWrUnmapped20 off v s
  | .wrUnmapped40 off v => Sys2Proof.Machine.execWrUnmapped40 off v s
  | .wrUnmapped80 off v => Sys2Proof.Machine.execWrUnmapped80 off v s
  | .txpop => Sys2Proof.Machine.execTxpop s
  | .rxpush v => Sys2Proof.Machine.execRxpush v s
  | .teardown => Sys2Proof.Machine.execTeardown s
  | .init => Sys2Proof.Machine.execInit s
  | .fstat => Sys2Proof.Machine.execFstat s
  | .reservedDiagW => Sys2Proof.Machine.execReservedDiagW s
  | .brd => Sys2Proof.Machine.execBrd s
  | .bwr v => Sys2Proof.Machine.execBwr v s
  | .reservedPort5 => Sys2Proof.Machine.execReservedPort5 s
  | .reservedPort67 => Sys2Proof.Machine.execReservedPort67 s

end Sys2Proof.Machine
end

