-- ==== Sys2Proof/WellFormed.lean ====
section
/-!
DEFINITION. Which terms of `Instr` are operations: the offset of an unmapped access lies in its row's range.
-/
namespace Sys2Proof

/-- `lo <= off <= hi` as unsigned numbers. -/
def offsetIn (lo hi off : Byte) : Bool := decide (lo.toNat ≤ off.toNat) && decide (off.toNat ≤ hi.toNat)

/-- Every operand the encoding admits, and no other: the five rows of an unmapped read and the five of an unmapped
write hold one range of offsets each (30_encoding.md R64); every other row has no operand, or a data byte with no
illegal value (R71). -/
def Instr.wellFormed : Instr → Bool
  | .rdUnmapped08 off => offsetIn 0x08 0x0F off
  | .rdUnmapped10 off => offsetIn 0x10 0x1F off
  | .rdUnmapped20 off => offsetIn 0x20 0x3F off
  | .rdUnmapped40 off => offsetIn 0x40 0x7F off
  | .rdUnmapped80 off => offsetIn 0x80 0xFF off
  | .wrUnmapped08 off _ => offsetIn 0x08 0x0F off
  | .wrUnmapped10 off _ => offsetIn 0x10 0x1F off
  | .wrUnmapped20 off _ => offsetIn 0x20 0x3F off
  | .wrUnmapped40 off _ => offsetIn 0x40 0x7F off
  | .wrUnmapped80 off _ => offsetIn 0x80 0xFF off
  | .rdRbr | .rdIer | .rdIir | .rdLcr | .rdMcr | .rdLsr | .rdMsr | .rdScr => true
  | .wrThr _ | .wrIer _ | .wrFcr _ | .wrLcr _ | .wrMcr _ | .wrLsr _ | .wrMsr _ | .wrScr _ => true
  | .txpop | .rxpush _ | .teardown | .init | .fstat | .brd | .bwr _ => true
  | .reservedDiagW | .reservedPort5 | .reservedPort67 => true

end Sys2Proof
end

