-- ==== Sys2Proof/Decode.lean ====
section
/-!
DEFINITION. The command word: its fields, the decoder, the encoder, and the opcode table's match and mask columns.
-/
namespace Sys2Proof

/-! The fields of the format `CMD` (30_encoding.md R61). -/

/-- `cmd[19:17]`: which interface the operation comes through. -/
def portField (c : CommandWord) : BitVec 3 := c.extractLsb' 17 3

/-- `cmd[16]`: 0 for the read-like operation of the port, 1 for the write-like one. -/
def writeField (c : CommandWord) : Bool := c.getLsbD 16

/-- `cmd[15:8]`: the register offset, unsigned, not scaled and not extended (R63). -/
def offField (c : CommandWord) : Byte := c.extractLsb' 8 8

/-- `cmd[7:0]`: the data byte, used as it stands (R63). -/
def dataField (c : CommandWord) : Byte := c.extractLsb' 0 8

/-- The command word with the given fields. -/
def packCommand (port : BitVec 3) (w : Bool) (off data : Byte) : CommandWord :=
  port ++ BitVec.ofBool w ++ off ++ data

/-- `RD off` by its offset: all eight bits are compared with the mapped offsets, and an unmapped offset belongs to
the row of its highest set bit (R64; 20_memory.md R55). -/
def decodeRead (off : Byte) : Instr :=
  if off = Config.offData then .rdRbr
  else if off = Config.offIER then .rdIer
  else if off = Config.offIIRFCR then .rdIir
  else if off = Config.offLCR then .rdLcr
  else if off = Config.offMCR then .rdMcr
  else if off = Config.offLSR then .rdLsr
  else if off = Config.offMSR then .rdMsr
  else if off = Config.offSCR then .rdScr
  else if off.getLsbD 7 then .rdUnmapped80 off
  else if off.getLsbD 6 then .rdUnmapped40 off
  else if off.getLsbD 5 then .rdUnmapped20 off
  else if off.getLsbD 4 then .rdUnmapped10 off
  else .rdUnmapped08 off

/-- `WR off, v` by its offset, as `decodeRead` (R64). -/
def decodeWrite (off v : Byte) : Instr :=
  if off = Config.offData then .wrThr v
  else if off = Config.offIER then .wrIer v
  else if off = Config.offIIRFCR then .wrFcr v
  else if off = Config.offLCR then .wrLcr v
  else if off = Config.offMCR then .wrMcr v
  else if off = Config.offLSR then .wrLsr v
  else if off = Config.offMSR then .wrMsr v
  else if off = Config.offSCR then .wrScr v
  else if off.getLsbD 7 then .wrUnmapped80 off v
  else if off.getLsbD 6 then .wrUnmapped40 off v
  else if off.getLsbD 5 then .wrUnmapped20 off v
  else if off.getLsbD 4 then .wrUnmapped10 off v
  else .wrUnmapped08 off v

/-- The operation of a port (R62), with the fields it ignores masked out (R67). Ports 5, 6, 7 and the write side of
port 3 name no operation (R66): their words decode to the reserved rows, which every state refuses (log 10). -/
def decodeFields (port : BitVec 3) (w : Bool) (off data : Byte) : Instr :=
  match port.toNat, w with
  | 0, false => decodeRead off
  | 0, true => decodeWrite off data
  | 1, false => .txpop
  | 1, true => .rxpush data
  | 2, false => .teardown
  | 2, true => .init
  | 3, false => .fstat
  | 3, true => .reservedDiagW
  | 4, false => .brd
  | 4, true => .bwr data
  | 5, _ => .reservedPort5
  | _, _ => .reservedPort67

/-- The operation a command word selects. Total: the rows of R64 and R66 cover all 2^20 words. -/
def decode (c : CommandWord) : Instr := decodeFields (portField c) (writeField c) (offField c) (dataField c)

/-! The bytes of a command word. The spec gives none: a command word is 20 bits in an invocation, stored nowhere.
The layout below serves `decodeTableWord` alone. DESIGN CHOICE, safe (log 9). -/

/-- Why bytes are no command word. -/
inductive DecodeError
  /-- Fewer than three bytes. -/
  | truncated
  /-- The third byte's upper four bits, which are no bits of a 20-bit word, are not zero. -/
  | notTwentyBits
  deriving DecidableEq, Repr

/-- The operation the first three bytes hold, least significant byte first, and the bytes that follow. -/
def decodeBytes : List Byte → Except DecodeError (Instr × List Byte)
  | b0 :: b1 :: b2 :: rest =>
    if b2.toNat < 16 then .ok (decode (b2.extractLsb' 0 4 ++ b1 ++ b0), rest) else .error .notTwentyBits
  | _ => .error .truncated

/-- What the decoder reads from an operation whose bits are `w`, numbered as the opcode table numbers them; the bits
above `nbits` are zero. -/
def decodeTableWord (nbits w : Nat) : Option Instr :=
  let bits := w % 2 ^ nbits
  if bits < 2 ^ 24 then
    match decodeBytes [BitVec.ofNat 8 bits, BitVec.ofNat 8 (bits / 2 ^ 8), BitVec.ofNat 8 (bits / 2 ^ 16)] with
    | .ok (i, _) => some i
    | .error _ => none
  else none

/-! The encoder. -/

/-- The command word of a well-formed operation, with don't-care fields zero (R64, R67). -/
def encode : Instr → CommandWord
  | .rdRbr => packCommand 0 false Config.offData 0
  | .rdIer => packCommand 0 false Config.offIER 0
  | .rdIir => packCommand 0 false Config.offIIRFCR 0
  | .rdLcr => packCommand 0 false Config.offLCR 0
  | .rdMcr => packCommand 0 false Config.offMCR 0
  | .rdLsr => packCommand 0 false Config.offLSR 0
  | .rdMsr => packCommand 0 false Config.offMSR 0
  | .rdScr => packCommand 0 false Config.offSCR 0
  | .rdUnmapped08 off => packCommand 0 false off 0
  | .rdUnmapped10 off => packCommand 0 false off 0
  | .rdUnmapped20 off => packCommand 0 false off 0
  | .rdUnmapped40 off => packCommand 0 false off 0
  | .rdUnmapped80 off => packCommand 0 false off 0
  | .wrThr v => packCommand 0 true Config.offData v
  | .wrIer v => packCommand 0 true Config.offIER v
  | .wrFcr v => packCommand 0 true Config.offIIRFCR v
  | .wrLcr v => packCommand 0 true Config.offLCR v
  | .wrMcr v => packCommand 0 true Config.offMCR v
  | .wrLsr v => packCommand 0 true Config.offLSR v
  | .wrMsr v => packCommand 0 true Config.offMSR v
  | .wrScr v => packCommand 0 true Config.offSCR v
  | .wrUnmapped08 off v => packCommand 0 true off v
  | .wrUnmapped10 off v => packCommand 0 true off v
  | .wrUnmapped20 off v => packCommand 0 true off v
  | .wrUnmapped40 off v => packCommand 0 true off v
  | .wrUnmapped80 off v => packCommand 0 true off v
  | .txpop => packCommand 1 false 0 0
  | .rxpush v => packCommand 1 true 0 v
  | .teardown => packCommand 2 false 0 0
  | .init => packCommand 2 true 0 0
  | .fstat => packCommand 3 false 0 0
  | .reservedDiagW => packCommand 3 true 0 0
  | .brd => packCommand 4 false 0 0
  | .bwr v => packCommand 4 true 0 v
  | .reservedPort5 => packCommand 5 false 0 0
  | .reservedPort67 => packCommand 6 false 0 0

/-! The opcode table. -/

/-- One row of the opcode table: the words `c` with `c & mask = pattern` (R64). -/
structure OpcodeRow where
  pattern : CommandWord
  mask : CommandWord
  deriving DecidableEq, Repr

/-- The match and mask columns of an operation's row (R64, R66; the opcode table). -/
def Instr.row : Instr → OpcodeRow
  | .rdRbr => ⟨0x00000, 0xFFF00⟩
  | .rdIer => ⟨0x00100, 0xFFF00⟩
  | .rdIir => ⟨0x00200, 0xFFF00⟩
  | .rdLcr => ⟨0x00300, 0xFFF00⟩
  | .rdMcr => ⟨0x00400, 0xFFF00⟩
  | .rdLsr => ⟨0x00500, 0xFFF00⟩
  | .rdMsr => ⟨0x00600, 0xFFF00⟩
  | .rdScr => ⟨0x00700, 0xFFF00⟩
  | .rdUnmapped08 _ => ⟨0x00800, 0xFF800⟩
  | .rdUnmapped10 _ => ⟨0x01000, 0xFF000⟩
  | .rdUnmapped20 _ => ⟨0x02000, 0xFE000⟩
  | .rdUnmapped40 _ => ⟨0x04000, 0xFC000⟩
  | .rdUnmapped80 _ => ⟨0x08000, 0xF8000⟩
  | .wrThr _ => ⟨0x10000, 0xFFF00⟩
  | .wrIer _ => ⟨0x10100, 0xFFF00⟩
  | .wrFcr _ => ⟨0x10200, 0xFFF00⟩
  | .wrLcr _ => ⟨0x10300, 0xFFF00⟩
  | .wrMcr _ => ⟨0x10400, 0xFFF00⟩
  | .wrLsr _ => ⟨0x10500, 0xFFF00⟩
  | .wrMsr _ => ⟨0x10600, 0xFFF00⟩
  | .wrScr _ => ⟨0x10700, 0xFFF00⟩
  | .wrUnmapped08 _ _ => ⟨0x10800, 0xFF800⟩
  | .wrUnmapped10 _ _ => ⟨0x11000, 0xFF000⟩
  | .wrUnmapped20 _ _ => ⟨0x12000, 0xFE000⟩
  | .wrUnmapped40 _ _ => ⟨0x14000, 0xFC000⟩
  | .wrUnmapped80 _ _ => ⟨0x18000, 0xF8000⟩
  | .txpop => ⟨0x20000, 0xF0000⟩
  | .rxpush _ => ⟨0x30000, 0xF0000⟩
  | .teardown => ⟨0x40000, 0xF0000⟩
  | .init => ⟨0x50000, 0xF0000⟩
  | .fstat => ⟨0x60000, 0xF0000⟩
  | .reservedDiagW => ⟨0x70000, 0xF0000⟩
  | .brd => ⟨0x80000, 0xF0000⟩
  | .bwr _ => ⟨0x90000, 0xF0000⟩
  | .reservedPort5 => ⟨0xA0000, 0xE0000⟩
  | .reservedPort67 => ⟨0xC0000, 0xC0000⟩

/-- One operation of every row, in the table's order. -/
def oneOfEachRow : List Instr :=
  [.rdRbr, .rdIer, .rdIir, .rdLcr, .rdMcr, .rdLsr, .rdMsr, .rdScr,
   .rdUnmapped08 0x08, .rdUnmapped10 0x10, .rdUnmapped20 0x20, .rdUnmapped40 0x40, .rdUnmapped80 0x80,
   .wrThr 0, .wrIer 0, .wrFcr 0, .wrLcr 0, .wrMcr 0, .wrLsr 0, .wrMsr 0, .wrScr 0] ++
  [.wrUnmapped08 0x08 0, .wrUnmapped10 0x10 0, .wrUnmapped20 0x20 0, .wrUnmapped40 0x40 0, .wrUnmapped80 0x80 0,
   .txpop, .rxpush 0, .teardown, .init, .fstat, .reservedDiagW, .brd, .bwr 0, .reservedPort5, .reservedPort67]

/-- The opcode table's match and mask columns, 36 rows. -/
def opcodeTable : List OpcodeRow := oneOfEachRow.map Instr.row

end Sys2Proof
end

