-- ==== Sys2Proof/Machine/Operands.lean ====
section
/-!
DEFINITION. The forms an invocation takes: command words, bus transfers by width, register names for offsets, the two
pseudo-operations, the address window, and taking the next request.
-/
namespace Sys2Proof.Machine

/-- The command word of a request: a bus transfer of one byte is `RD off` or `WR off, v` (00_scope.md R8), and a
transfer of any other width has none (20_memory.md R43). -/
def Request.commandWord : Request → Option CommandWord
  | .command c => some c
  | .memRead off n => if n = 1 then some (packCommand 0 false off 0) else none
  | .memWrite off [v] => some (packCommand 0 true off v)
  | .memWrite _ _ => none

/-- The request that invokes an operation by its encoding. -/
def Request.ofInstr (i : Instr) : Request := .command (encode i)

/-- The next request of the order the outside chose, and the state with it taken; none when nothing is invoked
(20_memory.md R49, R50; log 2). -/
def takeRequest (s : State) : Option (Request × State) :=
  match s.requests with
  | [] => none
  | r :: rest => some (r, { s with requests := rest })

/-- The refusal of a transfer that is not one byte wide, with no state change (20_memory.md R43). -/
def refuseWidth (_s : State) : Outcome := .refused .notOneByte

/-- Put one command word before everything else the outside will invoke. -/
def pushCommand (s : State) (c : CommandWord) : State := { s with requests := .command c :: s.requests }

/-- Names that stand for offsets, in either direction (30_encoding.md R70). -/
inductive RegName
  | RBR | THR | IER | IIR | FCR | LCR | MCR | LSR | MSR | SCR
  deriving DecidableEq, Repr

/-- The offset a name stands for; a name used in the wrong direction means the offset all the same
(30_encoding.md R70). -/
def RegName.offset : RegName → Byte
  | .RBR | .THR => Config.offData
  | .IER => Config.offIER
  | .IIR | .FCR => Config.offIIRFCR
  | .LCR => Config.offLCR
  | .MCR => Config.offMCR
  | .LSR => Config.offLSR
  | .MSR => Config.offMSR
  | .SCR => Config.offSCR

/-- `PUTS "c1c2...cn"`: `WR 0x00, c1`; ...; `WR 0x00, cn` (30_encoding.md R70). -/
def puts (bytes : List Byte) : List Request := bytes.map fun v => .command (packCommand 0 true RegName.THR.offset v)

/-- `PUSHS "c1c2...cn"`: `RXPUSH c1`; ...; `RXPUSH cn` (30_encoding.md R70). -/
def pushs (bytes : List Byte) : List Request := bytes.map fun v => .command (packCommand 1 true 0 v)

/-- `off = addr - BASE`, for the 256 addresses of the window and no other: what a platform that maps the block
computes before it invokes an operation (20_memory.md R42; log 15). No step uses it. -/
def windowOffset (base addr : Nat) : Option Byte :=
  if base ≤ addr ∧ addr < base + 256 then some (BitVec.ofNat 8 (addr - base)) else none

end Sys2Proof.Machine
end

