-- ==== Sys2Proof/Machine/Step.lean ====
section
/-!
DEFINITION. One step: the next operation of the order the outside chose runs to completion (20_memory.md R46, R49).
-/
namespace Sys2Proof.Machine

/-- One whole operation. With nothing invoked the block does nothing (00_scope.md R3). A refusal changes no state. -/
def step (s : State) : Host.Outcome State Fault Refusal :=
  match takeRequest s with
  | none => idle s
  | some (r, t) =>
    match r.commandWord with
    | none => refuseWidth s
    | some c => exec (decode c) t

/-- `s` with the operation whose bits are `w` (numbered as the opcode table numbers them, those above `nbits` zero) as
the one that the very next step runs; it stands for the outside invoking it (log 2). -/
def State.withFetchWord (s : State) (nbits w : Nat) : State := pushCommand s (BitVec.ofNat 20 (w % 2 ^ nbits))

end Sys2Proof.Machine
end

