-- ==== Sys2Proof/Safety.lean ====
section
/-!
DEFINITION. The vocabulary claims are stated in: runs, the operations that have a meaning, the invariant, and when two
states cannot be told apart.
-/
namespace Sys2Proof

/-- The rows that name no operation (30_encoding.md R66). -/
def Instr.isReserved : Instr → Bool
  | .reservedDiagW | .reservedPort5 | .reservedPort67 => true
  | .rdRbr | .rdIer | .rdIir | .rdLcr | .rdMcr | .rdLsr | .rdMsr | .rdScr => false
  | .rdUnmapped08 _ | .rdUnmapped10 _ | .rdUnmapped20 _ | .rdUnmapped40 _ | .rdUnmapped80 _ => false
  | .wrThr _ | .wrIer _ | .wrFcr _ | .wrLcr _ | .wrMcr _ | .wrLsr _ | .wrMsr _ | .wrScr _ => false
  | .wrUnmapped08 _ _ | .wrUnmapped10 _ _ | .wrUnmapped20 _ _ | .wrUnmapped40 _ _ | .wrUnmapped80 _ _ => false
  | .txpop | .rxpush _ | .teardown | .init | .fstat | .brd | .bwr _ => false

/-- The two operations with a meaning in both lifecycle states (45_lifecycle_diag.md R133). -/
def Instr.isLifecycle : Instr → Bool
  | .init | .teardown => true
  | .rdRbr | .rdIer | .rdIir | .rdLcr | .rdMcr | .rdLsr | .rdMsr | .rdScr => false
  | .rdUnmapped08 _ | .rdUnmapped10 _ | .rdUnmapped20 _ | .rdUnmapped40 _ | .rdUnmapped80 _ => false
  | .wrThr _ | .wrIer _ | .wrFcr _ | .wrLcr _ | .wrMcr _ | .wrLsr _ | .wrMsr _ | .wrScr _ => false
  | .wrUnmapped08 _ _ | .wrUnmapped10 _ _ | .wrUnmapped20 _ _ | .wrUnmapped40 _ _ | .wrUnmapped80 _ _ => false
  | .txpop | .rxpush _ | .fstat | .brd | .bwr _ => false
  | .reservedDiagW | .reservedPort5 | .reservedPort67 => false

/-- The bus reads and writes of the five bytes software can store: IER, FCR, LCR, MCR, SCR (10_state.md R19). FCR has
no read (R22). -/
def Instr.accessesWritableRegister : Instr → Bool
  | .rdIer | .rdLcr | .rdMcr | .rdScr => true
  | .wrIer _ | .wrFcr _ | .wrLcr _ | .wrMcr _ | .wrScr _ => true
  | .rdRbr | .rdIir | .rdLsr | .rdMsr => false
  | .rdUnmapped08 _ | .rdUnmapped10 _ | .rdUnmapped20 _ | .rdUnmapped40 _ | .rdUnmapped80 _ => false
  | .wrThr _ | .wrLsr _ | .wrMsr _ => false
  | .wrUnmapped08 _ _ | .wrUnmapped10 _ _ | .wrUnmapped20 _ _ | .wrUnmapped40 _ _ | .wrUnmapped80 _ _ => false
  | .txpop | .rxpush _ | .teardown | .init | .fstat | .brd | .bwr _ => false
  | .reservedDiagW | .reservedPort5 | .reservedPort67 => false

namespace Machine

/-- `k` steps of the machine, stopping at the first refusal; the same as the host's `Host.Core.run` on `core`. -/
def run : Nat → State → Outcome
  | 0, s => .next s
  | k + 1, s =>
    match step s with
    | .next t => run k t
    | .fault r => .fault r
    | .refused r => .refused r

/-- The invariant of the block: in the Ready state IIR is 0x01 and MSR is 0x00 (10_state.md R21, R25). That cursors
stay below 16 (R13) is part of their type. -/
def State.Inv (s : State) : Prop := s.life = .ready → s.IIR = 0x01 ∧ s.MSR = 0x00

/-- A run is safe when it is refused nowhere: every operation in it has a meaning where it is invoked. -/
def SafeFor (k : Nat) (s : State) : Prop := ∃ t, run k s = .next t

/-- Two states that show the outside the same (10_state.md R17, with FCR left out as R22 allows): the same lifecycle
state, inputs and outputs, and, while Ready, the same pending bytes and the same readable registers. Cursors, stale
slots (R16) and FCR may differ. -/
def SameView (s t : State) : Prop :=
  s.life = t.life ∧ s.requests = t.requests ∧ s.sink = t.sink ∧ s.result = t.result ∧ s.preload = t.preload ∧
    (s.life = .ready →
      s.rx.pending = t.rx.pending ∧ s.tx.pending = t.tx.pending ∧
        s.IER = t.IER ∧ s.IIR = t.IIR ∧ s.LCR = t.LCR ∧ s.MCR = t.MCR ∧ s.MSR = t.MSR ∧ s.SCR = t.SCR)

/-- Two outcomes the outside cannot tell apart. -/
def SameOutcome : Outcome → Outcome → Prop
  | .next s, .next t => SameView s t
  | .refused p, .refused q => p = q
  | _, _ => False

/-- `n` dequeues in a row: the bytes returned, first to last, and the FIFO afterwards. -/
def Fifo.drain (sentinel : Byte) : Nat → Fifo → List Byte × Fifo
  | 0, F => ([], F)
  | n + 1, F =>
    let d := F.dequeue sentinel
    let rest := Fifo.drain sentinel n d.2
    (d.1 :: rest.1, rest.2)

/-- `s` with other bytes in the five registers software can write. -/
def State.withWritableRegisters (s : State) (ier fcr lcr mcr scr : Byte) : State :=
  { s with IER := ier, FCR := fcr, LCR := lcr, MCR := mcr, SCR := scr }

/-- A cursor that stayed or moved by exactly one position, wrapping from 15 to 0 (10_state.md R29). -/
def MovesByAtMostOne (before after : Cursor) : Prop := after = before ∨ after = before + 1

end Machine

end Sys2Proof
end

