-- ==== Sys2Proof/Certificates/Slice0/Obligations.lean ====
section
/-!
DEFINITION. The statements for the provers. A next state is written out as a change of named fields of the state
before, so each such statement is result, completion and frame in one: every field not named is unchanged. On the
cursors, `c + 1` is addition modulo 16.
-/

open Sys2Proof Sys2Proof.Machine

/-! Register reads. -/

/-- R101: the read of RBR dequeues the receive FIFO; DR afterwards is 1 only if more than one byte was pending. -/
def Obligations.RdRbrDequeuesReceiveFifo : Prop :=
  (∀ c : CommandWord, c &&& 0xFFF00 = 0x00000 → decode c = .rdRbr) ∧
  ∀ s : State, s.life = .ready →
    (s.rx.head = s.rx.tail → exec .rdRbr s = .next { s with result := .byte 0xFF }) ∧
    (s.rx.head ≠ s.rx.tail →
      ∃ t, exec .rdRbr s = .next t ∧
        t = { s with rx := { s.rx with head := s.rx.head + 1 }, result := .byte s.rx.buf[s.rx.head.val] } ∧
        (dataReady t = true ↔ s.rx.occupiedCount ≠ 1))

/-- R102, R103, R104, R105, R107, R108: a read of a stored register returns all eight bits and changes nothing; IIR
reads 0x01 and MSR 0x00 under the invariant of the block. -/
def Obligations.RdStoredRegisterReturnsItUnmodified : Prop :=
  (∀ c : CommandWord,
    (c &&& 0xFFF00 = 0x00100 → decode c = .rdIer) ∧ (c &&& 0xFFF00 = 0x00200 → decode c = .rdIir) ∧
    (c &&& 0xFFF00 = 0x00300 → decode c = .rdLcr) ∧ (c &&& 0xFFF00 = 0x00400 → decode c = .rdMcr) ∧
    (c &&& 0xFFF00 = 0x00600 → decode c = .rdMsr) ∧ (c &&& 0xFFF00 = 0x00700 → decode c = .rdScr)) ∧
  ∀ s : State, s.life = .ready →
    exec .rdIer s = .next { s with result := .byte s.IER } ∧
    exec .rdIir s = .next { s with result := .byte s.IIR } ∧
    exec .rdLcr s = .next { s with result := .byte s.LCR } ∧
    exec .rdMcr s = .next { s with result := .byte s.MCR } ∧
    exec .rdMsr s = .next { s with result := .byte s.MSR } ∧
    exec .rdScr s = .next { s with result := .byte s.SCR } ∧
    (s.Inv → exec .rdIir s = .next { s with result := .byte 0x01 } ∧
      exec .rdMsr s = .next { s with result := .byte 0x00 })

/-- R106, R90, R94: the read of LSR returns 0x61 or 0x60 by the receive cursors alone and changes nothing. -/
def Obligations.RdLsrComputesFromReceiveCursors : Prop :=
  (∀ c : CommandWord, c &&& 0xFFF00 = 0x00500 → decode c = .rdLsr) ∧
  (∀ c : CommandWord, c &&& 0xFFF00 = 0x10500 → ∃ v, decode c = .wrLsr v) ∧
  ∀ s : State,
    lsr s = 0x60 ||| (if s.rx.head ≠ s.rx.tail then 0x01 else 0x00) ∧
    lsr s = (1 <<< Config.lsrTEMTBit) ||| (1 <<< Config.lsrTHREBit) |||
      ((if s.rx.head ≠ s.rx.tail then 1 else 0) <<< Config.lsrDRBit) ∧
    (s.life = .ready →
      exec .rdLsr s = .next { s with result := .byte (if s.rx.head ≠ s.rx.tail then 0x61 else 0x60) } ∧
      ∀ v, exec (.wrLsr v) s = .next { s with result := .nothing })

/-- R109: a read of any offset from 0x08 to 0xFF returns 0xFF and changes nothing. -/
def Obligations.RdUnmappedReturnsFF : Prop :=
  (∀ c : CommandWord,
    (c &&& 0xFF800 = 0x00800 → decode c = .rdUnmapped08 (offField c)) ∧
    (c &&& 0xFF000 = 0x01000 → decode c = .rdUnmapped10 (offField c)) ∧
    (c &&& 0xFE000 = 0x02000 → decode c = .rdUnmapped20 (offField c)) ∧
    (c &&& 0xFC000 = 0x04000 → decode c = .rdUnmapped40 (offField c)) ∧
    (c &&& 0xF8000 = 0x08000 → decode c = .rdUnmapped80 (offField c))) ∧
  ∀ (off : Byte) (s : State), s.life = .ready →
    exec (.rdUnmapped08 off) s = .next { s with result := .byte 0xFF } ∧
    exec (.rdUnmapped10 off) s = .next { s with result := .byte 0xFF } ∧
    exec (.rdUnmapped20 off) s = .next { s with result := .byte 0xFF } ∧
    exec (.rdUnmapped40 off) s = .next { s with result := .byte 0xFF } ∧
    exec (.rdUnmapped80 off) s = .next { s with result := .byte 0xFF }

/-- R100: the whole read dispatch, by the offset and whatever the ignored data byte. -/
def Obligations.BusReadDispatchesOnTheOffset : Prop :=
  ∀ (off data : Byte) (s : State), s.life = .ready →
    exec (decode (packCommand 0 false off data)) s = .next
      (if off = 0x00 then
        (if s.rx.head = s.rx.tail then { s with result := .byte 0xFF }
         else { s with rx := { s.rx with head := s.rx.head + 1 }, result := .byte s.rx.buf[s.rx.head.val] })
       else { s with result := .byte (
         if off = 0x01 then s.IER
         else if off = 0x02 then s.IIR
         else if off = 0x03 then s.LCR
         else if off = 0x04 then s.MCR
         else if off = 0x05 then (if s.rx.head ≠ s.rx.tail then 0x61 else 0x60)
         else if off = 0x06 then s.MSR
         else if off = 0x07 then s.SCR
         else 0xFF) })

/-! Register writes. -/

/-- R111: a write to THR enqueues into the transmit FIFO unless it is full, and reaches the sink in either case. -/
def Obligations.WrThrEnqueuesAndAlwaysReachesTheSink : Prop :=
  (∀ c : CommandWord, c &&& 0xFFF00 = 0x10000 → decode c = .wrThr (dataField c)) ∧
  ∀ (v : Byte) (s : State), s.life = .ready →
    (s.tx.tail + 1 = s.tx.head →
      exec (.wrThr v) s = .next { s with sink := s.sink ++ [v], result := .nothing }) ∧
    (s.tx.tail + 1 ≠ s.tx.head →
      exec (.wrThr v) s = .next { s with
        tx := { s.tx with buf := s.tx.buf.set s.tx.tail.val v, tail := s.tx.tail + 1 }
        sink := s.sink ++ [v]
        result := .nothing })

/-- R112, R113, R114, R115, R118: a write to a stored register replaces all eight bits of it and nothing else; IIR and
both FIFOs stay as they were. -/
def Obligations.WrStoredRegisterReplacesItAlone : Prop :=
  (∀ c : CommandWord,
    (c &&& 0xFFF00 = 0x10100 → decode c = .wrIer (dataField c)) ∧
    (c &&& 0xFFF00 = 0x10200 → decode c = .wrFcr (dataField c)) ∧
    (c &&& 0xFFF00 = 0x10300 → decode c = .wrLcr (dataField c)) ∧
    (c &&& 0xFFF00 = 0x10400 → decode c = .wrMcr (dataField c)) ∧
    (c &&& 0xFFF00 = 0x10700 → decode c = .wrScr (dataField c))) ∧
  ∀ (v : Byte) (s : State), s.life = .ready →
    exec (.wrIer v) s = .next { s with IER := v, result := .nothing } ∧
    exec (.wrFcr v) s = .next { s with FCR := v, result := .nothing } ∧
    exec (.wrLcr v) s = .next { s with LCR := v, result := .nothing } ∧
    exec (.wrMcr v) s = .next { s with MCR := v, result := .nothing } ∧
    exec (.wrScr v) s = .next { s with SCR := v, result := .nothing }

/-- R116, R117, R119: a write to LSR, MSR or an unmapped offset is accepted and changes nothing. -/
def Obligations.WrLsrMsrUnmappedAreDiscarded : Prop :=
  (∀ c : CommandWord,
    (c &&& 0xFFF00 = 0x10500 → decode c = .wrLsr (dataField c)) ∧
    (c &&& 0xFFF00 = 0x10600 → decode c = .wrMsr (dataField c)) ∧
    (c &&& 0xFF800 = 0x10800 → decode c = .wrUnmapped08 (offField c) (dataField c)) ∧
    (c &&& 0xFF000 = 0x11000 → decode c = .wrUnmapped10 (offField c) (dataField c)) ∧
    (c &&& 0xFE000 = 0x12000 → decode c = .wrUnmapped20 (offField c) (dataField c)) ∧
    (c &&& 0xFC000 = 0x14000 → decode c = .wrUnmapped40 (offField c) (dataField c)) ∧
    (c &&& 0xF8000 = 0x18000 → decode c = .wrUnmapped80 (offField c) (dataField c))) ∧
  ∀ (off v : Byte) (s : State), s.life = .ready →
    exec (.wrLsr v) s = .next { s with result := .nothing } ∧
    exec (.wrMsr v) s = .next { s with result := .nothing } ∧
    exec (.wrUnmapped08 off v) s = .next { s with result := .nothing } ∧
    exec (.wrUnmapped10 off v) s = .next { s with result := .nothing } ∧
    exec (.wrUnmapped20 off v) s = .next { s with result := .nothing } ∧
    exec (.wrUnmapped40 off v) s = .next { s with result := .nothing } ∧
    exec (.wrUnmapped80 off v) s = .next { s with result := .nothing }

/-- R110: the whole write dispatch, by the offset. -/
def Obligations.BusWriteDispatchesOnTheOffset : Prop :=
  ∀ (off v : Byte) (s : State), s.life = .ready →
    exec (decode (packCommand 0 true off v)) s = .next
      (if off = 0x00 then
        { s with
          tx := if s.tx.tail + 1 = s.tx.head then s.tx
            else { s.tx with buf := s.tx.buf.set s.tx.tail.val v, tail := s.tx.tail + 1 }
          sink := s.sink ++ [v]
          result := .nothing }
       else if off = 0x01 then { s with IER := v, result := .nothing }
       else if off = 0x02 then { s with FCR := v, result := .nothing }
       else if off = 0x03 then { s with LCR := v, result := .nothing }
       else if off = 0x04 then { s with MCR := v, result := .nothing }
       else if off = 0x07 then { s with SCR := v, result := .nothing }
       else { s with result := .nothing })

/-- Property 4 of spec/95_test_vectors.md: a read of IER, LCR, MCR or SCR after a write to it returns the byte
written. -/
def Obligations.ReadAfterWriteReturnsTheByteWritten : Prop :=
  ∀ (v : Byte) (s : State), s.life = .ready →
    (∃ t, exec (.wrIer v) s = .next t ∧ exec .rdIer t = .next { t with result := .byte v }) ∧
    (∃ t, exec (.wrLcr v) s = .next t ∧ exec .rdLcr t = .next { t with result := .byte v }) ∧
    (∃ t, exec (.wrMcr v) s = .next t ∧ exec .rdMcr t = .next { t with result := .byte v }) ∧
    (∃ t, exec (.wrScr v) s = .next t ∧ exec .rdScr t = .next { t with result := .byte v })

/-- The source's property S7, and its like at the other read-only offsets: what a read of MSR, of IIR or of LSR
returns is the same before and after a write to its offset. -/
def Obligations.WritesDoNotReachReadOnlyOffsets : Prop :=
  ∀ (v : Byte) (s : State), s.life = .ready →
    (∃ t, exec (.wrMsr v) s = .next t ∧ exec .rdMsr t = .next { t with result := .byte s.MSR }) ∧
    (∃ t, exec (.wrFcr v) s = .next t ∧ exec .rdIir t = .next { t with result := .byte s.IIR }) ∧
    (∃ t, exec (.wrLsr v) s = .next t ∧ exec .rdLsr t = .next { t with result := .byte (lsr s) })

/-- R47, R48 (idempotence): every read but those that dequeue, run twice, does what it does once; so does every write
but the write to THR. -/
def Obligations.QuietReadsAndRegisterWritesAreIdempotent : Prop :=
  ∀ (i : Instr) (s t : State), i.isLifecycle = false →
    i ∉ [.rdRbr, .brd, .txpop] → (∀ v, i ≠ .wrThr v ∧ i ≠ .bwr v ∧ i ≠ .rxpush v) →
    exec i s = .next t → exec i t = .next t

/-! Line side and byte port. -/

/-- R120: RXPUSH enqueues into the receive FIFO, or drops the byte when it is full; DR is 1 afterwards. -/
def Obligations.RxpushEnqueuesIntoReceiveFifo : Prop :=
  (∀ c : CommandWord, c &&& 0xF0000 = 0x30000 → decode c = .rxpush (dataField c)) ∧
  ∀ (v : Byte) (s : State), s.life = .ready →
    (s.rx.tail + 1 = s.rx.head → exec (.rxpush v) s = .next { s with result := .nothing }) ∧
    (s.rx.tail + 1 ≠ s.rx.head →
      exec (.rxpush v) s = .next { s with
        rx := { s.rx with buf := s.rx.buf.set s.rx.tail.val v, tail := s.rx.tail + 1 }
        result := .nothing }) ∧
    (∀ t, exec (.rxpush v) s = .next t → dataReady t = true)

/-- R121: TXPOP dequeues the transmit FIFO, 0x00 when empty, and sends nothing to the sink. -/
def Obligations.TxpopDequeuesTransmitFifo : Prop :=
  (∀ c : CommandWord, c &&& 0xF0000 = 0x20000 → decode c = .txpop) ∧
  ∀ s : State, s.life = .ready →
    (s.tx.head = s.tx.tail → exec .txpop s = .next { s with result := .byte 0x00 }) ∧
    (s.tx.head ≠ s.tx.tail →
      exec .txpop s = .next { s with
        tx := { s.tx with head := s.tx.head + 1 }, result := .byte s.tx.buf[s.tx.head.val] })

/-- R122: BRD has the state change and the result of the read of RBR. -/
def Obligations.BrdDequeuesReceiveFifoAsRdRbr : Prop :=
  (∀ c : CommandWord, c &&& 0xF0000 = 0x80000 → decode c = .brd) ∧
  ∀ s : State, s.life = .ready →
    exec .brd s = exec .rdRbr s ∧
    (s.rx.head = s.rx.tail → exec .brd s = .next { s with result := .byte 0xFF }) ∧
    (s.rx.head ≠ s.rx.tail →
      ∃ t, exec .brd s = .next t ∧
        t = { s with rx := { s.rx with head := s.rx.head + 1 }, result := .byte s.rx.buf[s.rx.head.val] } ∧
        (dataReady t = true ↔ s.rx.occupiedCount ≠ 1))

/-- R123: BWR enqueues into the transmit FIFO, or drops the byte when it is full, and sends nothing to the sink. -/
def Obligations.BwrEnqueuesWithoutTheSink : Prop :=
  (∀ c : CommandWord, c &&& 0xF0000 = 0x90000 → decode c = .bwr (dataField c)) ∧
  ∀ (v : Byte) (s : State), s.life = .ready →
    (s.tx.tail + 1 = s.tx.head → exec (.bwr v) s = .next { s with result := .nothing }) ∧
    (s.tx.tail + 1 ≠ s.tx.head →
      exec (.bwr v) s = .next { s with
        tx := { s.tx with buf := s.tx.buf.set s.tx.tail.val v, tail := s.tx.tail + 1 }
        result := .nothing })

/-! Lifecycle and diagnostics. -/

/-- R130, R35: INIT, in either lifecycle state, leaves the reset state with the preload in the receive FIFO (its first
15 bytes, should it be longer), and touches neither the sink nor the parameter. -/
def Obligations.InitResetsAndPreloads : Prop :=
  (∀ c : CommandWord, c &&& 0xF0000 = 0x50000 → decode c = .init) ∧
  ∀ s : State, ∃ t, exec .init s = .next t ∧ t.life = .ready ∧
    t.rx.head = 0 ∧ t.rx.tail.val = min s.preload.length 15 ∧
    (∀ i : Fin 16, t.rx.buf[i.val] = (s.preload.take 15).getD i.val 0x00) ∧
    t.tx.head = 0 ∧ t.tx.tail = 0 ∧ (∀ i : Fin 16, t.tx.buf[i.val] = 0x00) ∧
    t.IER = 0x00 ∧ t.IIR = 0x01 ∧ t.FCR = 0x00 ∧ t.LCR = 0x00 ∧ t.MCR = 0x00 ∧ t.MSR = 0x00 ∧ t.SCR = 0x00 ∧
    t.rx.pending = s.preload.take 15 ∧
    (dataReady t = true ↔ s.preload ≠ []) ∧
    exec .rdLsr t = .next { t with result := .byte (if s.preload = [] then 0x60 else 0x61) } ∧
    exec .fstat t = .next { t with result := .counts (min s.preload.length 15) 0 } ∧
    exec .init t = .next t ∧
    t.sink = s.sink ∧ t.preload = s.preload ∧ t.requests = s.requests ∧ t.freeDraws = s.freeDraws ∧
    t.result = .nothing

/-- R131: TEARDOWN, in either lifecycle state, clears both FIFOs, ends Uninitialized and leaves the sink; of the seven
registers nothing is said. -/
def Obligations.TeardownClearsTheFifos : Prop :=
  (∀ c : CommandWord, c &&& 0xF0000 = 0x40000 → decode c = .teardown) ∧
  ∀ s : State, ∃ t, exec .teardown s = .next t ∧ t.life = .uninitialized ∧
    t.rx.head = 0 ∧ t.rx.tail = 0 ∧ t.tx.head = 0 ∧ t.tx.tail = 0 ∧
    (∀ i : Fin 16, t.rx.buf[i.val] = 0x00 ∧ t.tx.buf[i.val] = 0x00) ∧
    t.sink = s.sink ∧ t.preload = s.preload ∧ t.requests = s.requests ∧ t.result = .nothing

/-- R132: FSTAT returns the two counts, the lengths of the pending sequences, each at most 15, and changes nothing; and
how the counts rise to 15 and fall to 0. -/
def Obligations.FstatReturnsTheTwoCounts : Prop :=
  (∀ c : CommandWord, c &&& 0xF0000 = 0x60000 → decode c = .fstat) ∧
  ∀ s : State, s.life = .ready →
    exec .fstat s = .next { s with result := .counts s.rx.pending.length s.tx.pending.length } ∧
    exec .fstat s = .next { s with result := .counts s.rx.occupiedCount s.tx.occupiedCount } ∧
    s.rx.occupiedCount ≤ 15 ∧ s.tx.occupiedCount ≤ 15 ∧
    (∀ v t, exec (.wrThr v) s = .next t ∨ exec (.bwr v) s = .next t →
      t.tx.occupiedCount = min (s.tx.occupiedCount + 1) 15) ∧
    (∀ t, exec .txpop s = .next t → t.tx.occupiedCount = s.tx.occupiedCount - 1) ∧
    (∀ v t, exec (.rxpush v) s = .next t → t.rx.occupiedCount = min (s.rx.occupiedCount + 1) 15) ∧
    (∀ t, exec .rdRbr s = .next t ∨ exec .brd s = .next t → t.rx.occupiedCount = s.rx.occupiedCount - 1)

/-- R134: in the Uninitialized state every operation but INIT and TEARDOWN is refused, and those two complete. -/
def Obligations.UninitializedRefusesAllButInitAndTeardown : Prop :=
  ∀ s : State, s.life = .uninitialized →
    (∀ i : Instr, i.isLifecycle = false → i.isReserved = false → exec i s = .refused .uninitialized) ∧
    (∀ i : Instr, i.isLifecycle = true → ∃ t, exec i s = .next t)

/-- R133: the lifecycle machine, all six rows, and where it starts (power-on as an arbitrary state, log 7). INIT and
TEARDOWN forget the state they are applied to: from two states with the same preload, sink, requests and count of free
values they lead to the same state. That TEARDOWN leaves the same seven register bytes from both is the model's choice
(log 6: a free value depends on that count alone); R131 leaves each byte unspecified. -/
def Obligations.LifecycleMachineHasSixTransitions : Prop :=
  (∀ s : State, ∃ t, exec .init s = .next t ∧ t.life = .ready) ∧
  (∀ s : State, ∃ t, exec .teardown s = .next t ∧ t.life = .uninitialized) ∧
  (∀ (i : Instr) (s : State), i.isLifecycle = false → i.isReserved = false → s.life = .ready →
    ∃ t, exec i s = .next t ∧ t.life = .ready) ∧
  (∀ (i : Instr) (s : State), i.isLifecycle = false → s.life = .uninitialized → ∃ r, exec i s = .refused r) ∧
  (∀ any : State, (State.powerOn any).life = .uninitialized) ∧
  (∀ s u : State, s.preload = u.preload → s.sink = u.sink → s.requests = u.requests → s.freeDraws = u.freeDraws →
    exec .init s = exec .init u ∧ exec .teardown s = exec .teardown u)

/-- R66: the words of the reserved regions decode to no operation, and every state refuses them. -/
def Obligations.ReservedWordsAreRefused : Prop :=
  (∀ c : CommandWord,
    (c &&& 0xF0000 = 0x70000 → decode c = .reservedDiagW) ∧
    (c &&& 0xE0000 = 0xA0000 → decode c = .reservedPort5) ∧
    (c &&& 0xC0000 = 0xC0000 → decode c = .reservedPort67)) ∧
  ∀ s : State,
    exec .reservedDiagW s = .refused .reservedWord ∧
    exec .reservedPort5 s = .refused .reservedWord ∧
    exec .reservedPort67 s = .refused .reservedWord

/-- R140: no operation faults in any state, and in the Ready state every operation completes. -/
def Obligations.EveryOperationCompletesWhenReady : Prop :=
  (∀ (i : Instr) (s : State) (f : Fault), exec i s ≠ .fault f) ∧
  ∀ (i : Instr) (s : State), s.life = .ready → i.isReserved = false → ∃ t, exec i s = .next t

/-- R160, R162: from power-on, whatever the components hold, every operation but INIT and TEARDOWN is refused, and
INIT completes in a Ready state that satisfies the invariant. With an empty PRELOAD that state is State.reset, once the
model's own fields requests (log 2) and freeDraws (log 6), which INIT leaves alone, are set to their reset values. That
State.reset is the state after INIT is the model's reading (log 1), and so is power-on as an arbitrary state (log 7). -/
def Obligations.PowerOnNeedsInit : Prop :=
  ∀ any : State,
    (∀ i : Instr, i.isLifecycle = false → ∃ r, exec i (State.powerOn any) = .refused r) ∧
    (∃ t, exec .init (State.powerOn any) = .next t ∧ t.life = .ready ∧ t.Inv ∧
      (any.preload = [] → { t with requests := [], freeDraws := 0 } = State.reset))

/-! The FIFO engine. -/

/-- R82, R83, R84: the count is the integer formula and 0..15, empty is count 0, full is count 15, never both; and the
count is the length of the pending sequence. -/
def Obligations.CountEmptyFullAgree : Prop :=
  ∀ F : Fifo,
    ((F.occupiedCount : Int) = ((F.tail.val : Int) - F.head.val + 16) % 16) ∧ F.occupiedCount ≤ 15 ∧
    (F.isEmpty = true ↔ F.head = F.tail) ∧ (F.isEmpty = true ↔ F.occupiedCount = 0) ∧
    (F.isFull = true ↔ (F.tail.val + 1) % 16 = F.head.val) ∧ (F.isFull = true ↔ F.occupiedCount = 15) ∧
    ¬(F.isEmpty = true ∧ F.isFull = true) ∧ F.pending.length = F.occupiedCount

/-- R85: an enqueue below 15 appends to the pending sequence, a dequeue of a non-empty FIFO takes its first element,
and dequeues return the enqueued bytes in order, across wrap-around. -/
def Obligations.FifoReturnsBytesInOrder : Prop :=
  (∀ (F : Fifo) (b : Byte), F.occupiedCount < 15 → (F.enqueue b).pending = F.pending ++ [b]) ∧
  (∀ (F : Fifo) (d : Byte), F.head ≠ F.tail →
    F.pending = (F.dequeue d).1 :: (F.dequeue d).2.pending) ∧
  ∀ (F : Fifo) (bytes : List Byte) (d : Byte), F.occupiedCount + bytes.length ≤ 15 →
    (Fifo.drain d (F.occupiedCount + bytes.length) (bytes.foldl Fifo.enqueue F)).1 = F.pending ++ bytes ∧
    (Fifo.drain d (F.occupiedCount + bytes.length) (bytes.foldl Fifo.enqueue F)).2.pending = []

/-- R86, R87: at 15 bytes an enqueue changes nothing of the FIFO; at none a dequeue returns the sentinel, 0xFF on the
receive side and 0x00 on the transmit side, and changes nothing of the FIFO. -/
def Obligations.OverflowDropsAndUnderflowReturnsTheSentinel : Prop :=
  (∀ (F : Fifo) (b : Byte), F.occupiedCount = 15 → F.enqueue b = F) ∧
  (∀ (F : Fifo) (d : Byte), F.occupiedCount = 0 → F.dequeue d = (d, F)) ∧
  ∀ s : State, s.life = .ready →
    (s.rx.occupiedCount = 0 → exec .rdRbr s = .next { s with result := .byte 0xFF } ∧
      exec .brd s = .next { s with result := .byte 0xFF }) ∧
    (s.tx.occupiedCount = 0 → exec .txpop s = .next { s with result := .byte 0x00 }) ∧
    (s.rx.occupiedCount = 15 → ∀ v, exec (.rxpush v) s = .next { s with result := .nothing }) ∧
    (s.tx.occupiedCount = 15 → ∀ v, exec (.bwr v) s = .next { s with result := .nothing })

/-- R89: the two FIFOs are independent: an operation at the receive FIFO and one at the transmit FIFO lead, in either
order, to the same state but for which of the two results came last. -/
def Obligations.ReceiveAndTransmitSidesCommute : Prop :=
  ∀ (i j : Instr) (s : State), s.life = .ready →
    (i = .rdRbr ∨ i = .brd ∨ ∃ v, i = .rxpush v) → (j = .txpop ∨ ∃ v, j = .wrThr v ∨ j = .bwr v) →
    ∃ a b p q : State, exec i s = .next a ∧ exec j a = .next b ∧ exec j s = .next p ∧ exec i p = .next q ∧
      { b with result := .nothing } = { q with result := .nothing } ∧ a.result = q.result ∧ b.result = p.result ∧
      a.tx = s.tx ∧ p.rx = s.rx

/-- R29, R88: outside INIT and TEARDOWN a cursor moves, if at all, by one position with wrap-around; the receive head
only by RD_RBR and BRD, the receive tail only by RXPUSH, the transmit head only by TXPOP, the transmit tail only by
WR_THR and BWR. -/
def Obligations.CursorsMoveByOneAndOnlyByTheirOperations : Prop :=
  ∀ (i : Instr) (s t : State), i.isLifecycle = false → exec i s = .next t →
    MovesByAtMostOne s.rx.head t.rx.head ∧ MovesByAtMostOne s.rx.tail t.rx.tail ∧
    MovesByAtMostOne s.tx.head t.tx.head ∧ MovesByAtMostOne s.tx.tail t.tx.tail ∧
    (t.rx.head ≠ s.rx.head → i = .rdRbr ∨ i = .brd) ∧
    (t.rx.tail ≠ s.rx.tail → ∃ v, i = .rxpush v) ∧
    (t.tx.head ≠ s.tx.head → i = .txpop) ∧
    (t.tx.tail ≠ s.tx.tail → ∃ v, i = .wrThr v ∨ i = .bwr v)

/-! The line status logic. -/

/-- R91, R92, R93, R95: every bit of LSR. -/
def Obligations.LsrBitsFollowTheirRules : Prop :=
  ∀ s : State,
    ((lsr s).getLsbD 0 = true ↔ s.rx.isEmpty = false) ∧
    (lsr s).getLsbD 5 = true ∧ (lsr s).getLsbD 6 = true ∧
    (lsr s).getLsbD 1 = false ∧ (lsr s).getLsbD 2 = false ∧ (lsr s).getLsbD 3 = false ∧
    (lsr s).getLsbD 4 = false ∧ (lsr s).getLsbD 7 = false ∧
    (s.rx.head = s.rx.tail → lsr s = 0x60) ∧ (s.rx.head ≠ s.rx.tail → lsr s = 0x61)

/-- R163, property 7 of spec/95_test_vectors.md: after a read of LSR with bit 0 set, the next read of RBR returns the
oldest pending byte and the count drops by one; with bit 0 clear it returns 0xFF and nothing is consumed. -/
def Obligations.PollingLsrTellsWhatRbrReturns : Prop :=
  ∀ s : State, s.life = .ready →
    ∃ v t u, exec .rdLsr s = .next t ∧ t.result = .byte v ∧ exec .rdRbr t = .next u ∧
      (v.getLsbD 0 = true → ∃ b rest, s.rx.pending = b :: rest ∧ u.result = .byte b ∧ u.rx.pending = rest ∧
        u.rx.occupiedCount + 1 = s.rx.occupiedCount) ∧
      (v.getLsbD 0 = false → u.result = .byte 0xFF ∧ u.rx = s.rx)

/-! The whole machine. -/

/-- Property 3 of spec/95_test_vectors.md as an invariant: every step, from any state, keeps IIR at 0x01 and MSR at
0x00 while the block is Ready. -/
def Obligations.StepKeepsIirAndMsrConstant : Prop :=
  ∀ s t : State, s.Inv → step s = .next t → t.Inv

/-- The reset state satisfies the invariant. -/
def Obligations.ResetSatisfiesTheInvariant : Prop := State.reset.Inv ∧ State.reset.life = .ready

/-- R35: the reset state, component by component, with the default empty PRELOAD. That it is the state after INIT is
the model's reading (log 1), and the last four fields are the model's own (logs 2 to 6). -/
def Obligations.ResetStateIsAsTabulated : Prop :=
  State.reset.life = .ready ∧
  State.reset.rx.head = 0 ∧ State.reset.rx.tail = 0 ∧ State.reset.tx.head = 0 ∧ State.reset.tx.tail = 0 ∧
  (∀ i : Fin 16, State.reset.rx.buf[i.val] = 0x00 ∧ State.reset.tx.buf[i.val] = 0x00) ∧
  State.reset.IER = 0x00 ∧ State.reset.IIR = 0x01 ∧ State.reset.FCR = 0x00 ∧ State.reset.LCR = 0x00 ∧
  State.reset.MCR = 0x00 ∧ State.reset.MSR = 0x00 ∧ State.reset.SCR = 0x00 ∧
  State.reset.sink = [] ∧ State.reset.preload = [] ∧ State.reset.requests = [] ∧ State.reset.result = .nothing

/-- Property 5 of spec/95_test_vectors.md: which operations change the pending bytes of each FIFO. -/
def Obligations.PendingBytesChangeOnlyByTheirOperations : Prop :=
  ∀ (i : Instr) (s t : State), exec i s = .next t → i.isLifecycle = false →
    (i ≠ .rdRbr → i ≠ .brd → (∀ v, i ≠ .rxpush v) → t.rx = s.rx ∧ t.rx.pending = s.rx.pending) ∧
    (i ≠ .txpop → (∀ v, i ≠ .wrThr v ∧ i ≠ .bwr v) → t.tx = s.tx ∧ t.tx.pending = s.tx.pending)

/-- Property 6 of spec/95_test_vectors.md: the sink grows by the byte written at each write to THR and by nothing at
any other operation, INIT and TEARDOWN among them. -/
def Obligations.SinkGrowsOnlyByThrWrites : Prop :=
  ∀ (i : Instr) (s t : State), exec i s = .next t →
    (∀ v, i = .wrThr v → t.sink = s.sink ++ [v]) ∧ ((∀ v, i ≠ .wrThr v) → t.sink = s.sink)

/-- Whole-machine register frame: outside INIT and TEARDOWN each stored register changes only by the write to its own
offset, IIR and MSR by nothing; and no operation changes the lifecycle state, the parameter or the requests. -/
def Obligations.RegistersChangeOnlyByTheirWrites : Prop :=
  ∀ (i : Instr) (s t : State), exec i s = .next t →
    (i.isLifecycle = false →
      t.life = s.life ∧ t.IIR = s.IIR ∧ t.MSR = s.MSR ∧
      t.IER = (match i with | .wrIer v => v | _ => s.IER) ∧
      t.FCR = (match i with | .wrFcr v => v | _ => s.FCR) ∧
      t.LCR = (match i with | .wrLcr v => v | _ => s.LCR) ∧
      t.MCR = (match i with | .wrMcr v => v | _ => s.MCR) ∧
      t.SCR = (match i with | .wrScr v => v | _ => s.SCR) ∧ t.freeDraws = s.freeDraws) ∧
    t.preload = s.preload ∧ t.requests = s.requests

/-- R19, R54: no bit of IER, FCR, LCR, MCR or SCR changes what any operation does that is not an access to one of them
(INIT and TEARDOWN overwrite them): no FIFO clear, no divisor latch, no loopback, no interrupt. -/
def Obligations.WritableRegisterBitsHaveNoEffect : Prop :=
  ∀ (i : Instr) (s t : State) (ier fcr lcr mcr scr : Byte),
    i.isLifecycle = false → i.accessesWritableRegister = false → exec i s = .next t →
    exec i (s.withWritableRegisters ier fcr lcr mcr scr) = .next (t.withWritableRegisters ier fcr lcr mcr scr)

/-- R17, with R16 and R22: states that agree on the lifecycle, the readable registers and the pending bytes answer
every operation alike and agree again afterwards: cursors, stale slots and FCR cannot be seen. -/
def Obligations.SameViewIsKeptByEveryStep : Prop :=
  ∀ s t : State, SameView s t → SameOutcome (step s) (step t)

/-- R17, over every sequence of operations. -/
def Obligations.SameViewCannotBeToldApartByAnyRun : Prop :=
  ∀ (k : Nat) (s t : State), SameView s t → SameOutcome (run k s) (run k t)

/-- R140 and R46 over runs: from a Ready state, a sequence of one-byte transfers and command words that name an
operation and never tear the block down runs to its end, whatever the operations are, one request a step. -/
def Obligations.ReadyRunsAreNeverRefused : Prop :=
  ∀ s : State, s.life = .ready →
    (∀ r ∈ s.requests, ∃ c, r.commandWord = some c ∧ (decode c).isReserved = false ∧ decode c ≠ .teardown) →
    ∀ k, ∃ t, run k s = .next t ∧ t.life = .ready ∧ t.requests = s.requests.drop k

/-- R164, the source's S10: `PUTS` of any number of bytes with no pop in between leaves in the transmit FIFO what was
pending and the bytes after it, cut at 15, and every byte in the sink. -/
def Obligations.PutsFillsTheTransmitFifoToFifteen : Prop :=
  ∀ (bytes : List Byte) (rest : List Request) (s : State), s.life = .ready → s.requests = puts bytes ++ rest →
    ∃ t, run bytes.length s = .next t ∧ t.tx.pending = (s.tx.pending ++ bytes).take 15 ∧
      t.sink = s.sink ++ bytes ∧ t.requests = rest ∧ t.life = .ready ∧ t.rx = s.rx ∧
      t.IER = s.IER ∧ t.IIR = s.IIR ∧ t.FCR = s.FCR ∧ t.LCR = s.LCR ∧ t.MCR = s.MCR ∧ t.MSR = s.MSR ∧
      t.SCR = s.SCR ∧ t.preload = s.preload

/-- The source's S1 through the bus: at most 15 bytes pushed into an empty receive FIFO come back from as many reads
of offset 0x00, in order; the read after the `k`-th returns the `k`-th byte. -/
def Obligations.PushedBytesAreReadBackInOrder : Prop :=
  ∀ (bytes : List Byte) (rest : List Request) (s : State) (k : Nat) (h : k < bytes.length),
    s.life = .ready → s.rx.pending = [] → bytes.length ≤ 15 →
    s.requests = pushs bytes ++ List.replicate bytes.length (.memRead 0x00 1) ++ rest →
    ∃ t, run (bytes.length + (k + 1)) s = .next t ∧ t.result = .byte bytes[k] ∧ t.rx.pending = bytes.drop (k + 1)

/-! Invocation, decoding and encoding. -/

/-- A step runs the operation the next request names, a command word or a bus transfer of one byte, with that request
taken; with no request nothing happens; and the word that withFetchWord places is the operation the next step runs, and
the one decodeTableWord reads. The model's own here are the queue of requests (log 2) and the three-byte layout of a
command word that decodeTableWord goes through (log 9). -/
def Obligations.StepRunsTheRequestedOperation : Prop :=
  ∀ (s : State) (rest : List Request),
    (∀ c, s.requests = .command c :: rest → step s = exec (decode c) { s with requests := rest }) ∧
    (∀ off, s.requests = .memRead off 1 :: rest →
      step s = exec (decode (packCommand 0 false off 0)) { s with requests := rest }) ∧
    (∀ off v, s.requests = .memWrite off [v] :: rest →
      step s = exec (decode (packCommand 0 true off v)) { s with requests := rest }) ∧
    (s.requests = [] → step s = .next s) ∧
    (∀ c, ∃ i, i = decode c ∧ step (s.withFetchWord 24 c.toNat) = exec i s ∧ decodeTableWord 24 c.toNat = some i)

/-- A transfer of any number of bytes but one is refused under the name notOneByte, in every state. R43 refuses an
access wider than a byte. That a transfer of no byte is refused too is the model's deduction (log 11), and so is that
the refusal has this name in both lifecycle states (log 8). -/
def Obligations.WideTransfersAreRefused : Prop :=
  ∀ (s : State) (rest : List Request),
    (∀ off n, n ≠ 1 → s.requests = .memRead off n :: rest → step s = .refused .notOneByte) ∧
    (∀ off bytes, bytes.length ≠ 1 → s.requests = .memWrite off bytes :: rest → step s = .refused .notOneByte)

/-- R61, R64: words written out from the encoding, one or more of every port, decode to what they stand for. -/
def Obligations.WrittenOutWordsDecode : Prop :=
  decode 0b00000000010110100111#20 = .rdLsr ∧ decode 0b00000000111100000000#20 = .rdUnmapped08 0x0F ∧
  decode 0b00010000000001000001#20 = .wrThr 0x41 ∧ decode 0b00011111111101000010#20 = .wrUnmapped80 0xFF 0x42 ∧
  decode 0b00101111111111111111#20 = .txpop ∧ decode 0b00111010101101100001#20 = .rxpush 0x61 ∧
  decode 0b01000000000000000000#20 = .teardown ∧ decode 0b01010001001000110100#20 = .init ∧
  decode 0b01100000000000000000#20 = .fstat ∧ decode 0b01111111111111111111#20 = .reservedDiagW ∧
  decode 0b10000000000000000000#20 = .brd ∧ decode 0b10010000000001000010#20 = .bwr 0x42 ∧
  decode 0b10110001001000110100#20 = .reservedPort5 ∧ decode 0b11011111111111111111#20 = .reservedPort67

/-- Decode and encode agree: on every well-formed operation decoding its word gives it back, and every word decodes to
a well-formed operation. -/
def Obligations.DecodeInvertsEncode : Prop :=
  (∀ i : Instr, i.wellFormed = true → decode (encode i) = i) ∧ ∀ c : CommandWord, (decode c).wellFormed = true

/-- R64, R66: the 36 rows of the opcode table are pairwise disjoint and cover every word, and the decoder selects the
one row that matches. -/
def Obligations.EachWordMatchesExactlyItsRow : Prop :=
  opcodeTable.length = 36 ∧ ∀ c : CommandWord,
    (decode c).row ∈ opcodeTable ∧ c &&& (decode c).row.mask = (decode c).row.pattern ∧
    ∀ r ∈ opcodeTable, c &&& r.mask = r.pattern → r = (decode c).row

/-- R67: the data byte is ignored by RD, TXPOP, TEARDOWN, INIT, FSTAT and BRD, the offset by every port but BUS; and
the encoder writes an ignored field as zero. -/
def Obligations.IgnoredFieldsAreMaskedOutAndEncodedAsZero : Prop :=
  (∀ (off data : Byte), decode (packCommand 0 false off data) = decode (packCommand 0 false off 0)) ∧
  (∀ (p : BitVec 3) (w : Bool) (off data : Byte), p ≠ 0 →
    decode (packCommand p w off data) = decode (packCommand p w 0 data) ∧
    (w = false → decode (packCommand p w off data) = decode (packCommand p w 0 0))) ∧
  (∀ (off data : Byte), decode (packCommand 2 true off data) = decode (packCommand 2 true 0 0)) ∧
  (∀ i : Instr, portField (encode i) ≠ 0 → offField (encode i) = 0) ∧
  (∀ i : Instr, (∀ off v, i ≠ .wrUnmapped08 off v ∧ i ≠ .wrUnmapped10 off v ∧ i ≠ .wrUnmapped20 off v ∧
      i ≠ .wrUnmapped40 off v ∧ i ≠ .wrUnmapped80 off v) →
    (∀ v, i ≠ .wrThr v ∧ i ≠ .wrIer v ∧ i ≠ .wrFcr v ∧ i ≠ .wrLcr v ∧ i ≠ .wrMcr v ∧ i ≠ .wrLsr v ∧
      i ≠ .wrMsr v ∧ i ≠ .wrScr v ∧ i ≠ .rxpush v ∧ i ≠ .bwr v) → dataField (encode i) = 0)
end

