-- ==== Sys2Proof/Laws/Encoding.lean ====
section
/-!
SUPPORT. The fields of a command word and of a packed one (30_encoding.md R61).
-/
namespace Sys2Proof

@[simp] theorem portField_pack (p : BitVec 3) (w : Bool) (o d : Byte) : portField (packCommand p w o d) = p := by
  unfold portField packCommand
  ext i hi
  simp
  grind

@[simp] theorem writeField_pack (p : BitVec 3) (w : Bool) (o d : Byte) : writeField (packCommand p w o d) = w := by
  unfold writeField packCommand
  simp
  grind

@[simp] theorem offField_pack (p : BitVec 3) (w : Bool) (o d : Byte) : offField (packCommand p w o d) = o := by
  unfold offField packCommand
  ext i hi
  simp
  grind

@[simp] theorem dataField_pack (p : BitVec 3) (w : Bool) (o d : Byte) : dataField (packCommand p w o d) = d := by
  unfold dataField packCommand
  ext i hi
  simp
  grind

/-- A command word is its four fields. -/
theorem pack_fields (c : CommandWord) :
    packCommand (portField c) (writeField c) (offField c) (dataField c) = c := by
  unfold packCommand portField writeField offField dataField
  ext i hi
  simp
  grind

theorem decode_pack (p : BitVec 3) (w : Bool) (o d : Byte) : decode (packCommand p w o d) = decodeFields p w o d := by
  simp [decode]

end Sys2Proof
end

