-- ==== Sys2Proof/Laws/Fifo.lean ====
section
/-!
SUPPORT. What the FIFO primitives can do, said once each (40_fifo_engine.md R80 to R84).
-/
namespace Sys2Proof.Machine

/-- A cursor is below 16, with the number written out. -/
theorem cursor_lt (c : Cursor) : c.val < 16 := c.isLt

theorem advance_val (c : Cursor) : (advance c).val = (c.val + 1) % 16 := rfl

theorem advance_eq_add_one (c : Cursor) : advance c = c + 1 := by
  apply Fin.ext
  simp [advance, Fin.val_add]

theorem advance_ne_self (c : Cursor) : advance c ≠ c := by
  intro h
  have hv := congrArg Fin.val h
  have hc := cursor_lt c
  simp only [advance_val] at hv
  omega

/-- The count, on natural numbers. -/
theorem Fifo.occupiedCount_eq (F : Fifo) : F.occupiedCount = (F.tail.val + 16 - F.head.val) % 16 := by
  have hh := cursor_lt F.head
  have ht := cursor_lt F.tail
  simp only [Fifo.occupiedCount, Config.capacity, Nat.cast_ofNat]
  omega

theorem Fifo.isEmpty_iff (F : Fifo) : F.isEmpty = true ↔ F.head = F.tail := by
  simp [Fifo.isEmpty]

theorem Fifo.isFull_iff (F : Fifo) : F.isFull = true ↔ advance F.tail = F.head := by
  simp [Fifo.isFull]

/-- Everything an enqueue can do: drop the byte, or store it at the tail and advance the tail. -/
theorem Fifo.enqueue_cases (F : Fifo) (b : Byte) :
    (F.isFull = true ∧ F.enqueue b = F) ∨
      (F.isFull = false ∧ F.enqueue b = { F with buf := F.buf.set F.tail.val b, tail := advance F.tail }) := by
  unfold Fifo.enqueue
  cases F.isFull <;> simp

/-- Everything a dequeue can do: return the sentinel and change nothing, or return the byte at the head and advance
the head. -/
theorem Fifo.dequeue_cases (F : Fifo) (d : Byte) :
    (F.isEmpty = true ∧ F.dequeue d = (d, F)) ∨
      (F.isEmpty = false ∧ F.dequeue d = (F.buf[F.head.val], { F with head := advance F.head })) := by
  unfold Fifo.dequeue
  cases F.isEmpty <;> simp

@[simp] theorem Fifo.enqueue_head (F : Fifo) (b : Byte) : (F.enqueue b).head = F.head := by
  rcases F.enqueue_cases b with ⟨-, h⟩ | ⟨-, h⟩ <;> rw [h]

@[simp] theorem Fifo.dequeue_tail (F : Fifo) (d : Byte) : (F.dequeue d).2.tail = F.tail := by
  rcases F.dequeue_cases d with ⟨-, h⟩ | ⟨-, h⟩ <;> rw [h]

@[simp] theorem Fifo.dequeue_buf (F : Fifo) (d : Byte) : (F.dequeue d).2.buf = F.buf := by
  rcases F.dequeue_cases d with ⟨-, h⟩ | ⟨-, h⟩ <;> rw [h]

@[simp] theorem Fifo.length_pending (F : Fifo) : F.pending.length = F.occupiedCount := by
  simp [Fifo.pending]

/-- The slot at a position, as an index into the array. -/
theorem Fifo.slot_eq (F : Fifo) (i : Nat) (h : i % 16 < 16) : F.slot i = F.buf[i % 16] := rfl

/-- A slot is written by an enqueue only if it is the one at the tail. -/
theorem Fifo.slot_set (F : Fifo) (t : Cursor) (b : Byte) (i : Nat) (u : Cursor) :
    Fifo.slot { F with buf := F.buf.set t.val b, tail := u } i = if i % 16 = t.val then b else F.slot i := by
  simp only [Fifo.slot, Vector.getElem_set, Config.capacity]
  by_cases h : i % 16 = t.val
  · simp [h]
  · simp [h, Ne.symm h]

end Sys2Proof.Machine
end

