-- ==== Sys2Proof/Laws/State.lean ====
section
/-!
SUPPORT. What each update of State leaves in each field, so that no proof unfolds a record update.
-/
namespace Sys2Proof.Machine

/-! `State.setLife` -/

@[simp] theorem State.setLife_life (s : State) (l : Life) : (s.setLife l).life = l := rfl
@[simp] theorem State.setLife_rx (s : State) (l : Life) : (s.setLife l).rx = s.rx := rfl
@[simp] theorem State.setLife_tx (s : State) (l : Life) : (s.setLife l).tx = s.tx := rfl
@[simp] theorem State.setLife_IER (s : State) (l : Life) : (s.setLife l).IER = s.IER := rfl
@[simp] theorem State.setLife_IIR (s : State) (l : Life) : (s.setLife l).IIR = s.IIR := rfl
@[simp] theorem State.setLife_FCR (s : State) (l : Life) : (s.setLife l).FCR = s.FCR := rfl
@[simp] theorem State.setLife_LCR (s : State) (l : Life) : (s.setLife l).LCR = s.LCR := rfl
@[simp] theorem State.setLife_MCR (s : State) (l : Life) : (s.setLife l).MCR = s.MCR := rfl
@[simp] theorem State.setLife_MSR (s : State) (l : Life) : (s.setLife l).MSR = s.MSR := rfl
@[simp] theorem State.setLife_SCR (s : State) (l : Life) : (s.setLife l).SCR = s.SCR := rfl
@[simp] theorem State.setLife_sink (s : State) (l : Life) : (s.setLife l).sink = s.sink := rfl
@[simp] theorem State.setLife_result (s : State) (l : Life) : (s.setLife l).result = s.result := rfl
@[simp] theorem State.setLife_preload (s : State) (l : Life) : (s.setLife l).preload = s.preload := rfl
@[simp] theorem State.setLife_requests (s : State) (l : Life) : (s.setLife l).requests = s.requests := rfl
@[simp] theorem State.setLife_freeDraws (s : State) (l : Life) : (s.setLife l).freeDraws = s.freeDraws := rfl

/-! `State.setRx` -/

@[simp] theorem State.setRx_life (s : State) (F : Fifo) : (s.setRx F).life = s.life := rfl
@[simp] theorem State.setRx_rx (s : State) (F : Fifo) : (s.setRx F).rx = F := rfl
@[simp] theorem State.setRx_tx (s : State) (F : Fifo) : (s.setRx F).tx = s.tx := rfl
@[simp] theorem State.setRx_IER (s : State) (F : Fifo) : (s.setRx F).IER = s.IER := rfl
@[simp] theorem State.setRx_IIR (s : State) (F : Fifo) : (s.setRx F).IIR = s.IIR := rfl
@[simp] theorem State.setRx_FCR (s : State) (F : Fifo) : (s.setRx F).FCR = s.FCR := rfl
@[simp] theorem State.setRx_LCR (s : State) (F : Fifo) : (s.setRx F).LCR = s.LCR := rfl
@[simp] theorem State.setRx_MCR (s : State) (F : Fifo) : (s.setRx F).MCR = s.MCR := rfl
@[simp] theorem State.setRx_MSR (s : State) (F : Fifo) : (s.setRx F).MSR = s.MSR := rfl
@[simp] theorem State.setRx_SCR (s : State) (F : Fifo) : (s.setRx F).SCR = s.SCR := rfl
@[simp] theorem State.setRx_sink (s : State) (F : Fifo) : (s.setRx F).sink = s.sink := rfl
@[simp] theorem State.setRx_result (s : State) (F : Fifo) : (s.setRx F).result = s.result := rfl
@[simp] theorem State.setRx_preload (s : State) (F : Fifo) : (s.setRx F).preload = s.preload := rfl
@[simp] theorem State.setRx_requests (s : State) (F : Fifo) : (s.setRx F).requests = s.requests := rfl
@[simp] theorem State.setRx_freeDraws (s : State) (F : Fifo) : (s.setRx F).freeDraws = s.freeDraws := rfl

/-! `State.setTx` -/

@[simp] theorem State.setTx_life (s : State) (F : Fifo) : (s.setTx F).life = s.life := rfl
@[simp] theorem State.setTx_rx (s : State) (F : Fifo) : (s.setTx F).rx = s.rx := rfl
@[simp] theorem State.setTx_tx (s : State) (F : Fifo) : (s.setTx F).tx = F := rfl
@[simp] theorem State.setTx_IER (s : State) (F : Fifo) : (s.setTx F).IER = s.IER := rfl
@[simp] theorem State.setTx_IIR (s : State) (F : Fifo) : (s.setTx F).IIR = s.IIR := rfl
@[simp] theorem State.setTx_FCR (s : State) (F : Fifo) : (s.setTx F).FCR = s.FCR := rfl
@[simp] theorem State.setTx_LCR (s : State) (F : Fifo) : (s.setTx F).LCR = s.LCR := rfl
@[simp] theorem State.setTx_MCR (s : State) (F : Fifo) : (s.setTx F).MCR = s.MCR := rfl
@[simp] theorem State.setTx_MSR (s : State) (F : Fifo) : (s.setTx F).MSR = s.MSR := rfl
@[simp] theorem State.setTx_SCR (s : State) (F : Fifo) : (s.setTx F).SCR = s.SCR := rfl
@[simp] theorem State.setTx_sink (s : State) (F : Fifo) : (s.setTx F).sink = s.sink := rfl
@[simp] theorem State.setTx_result (s : State) (F : Fifo) : (s.setTx F).result = s.result := rfl
@[simp] theorem State.setTx_preload (s : State) (F : Fifo) : (s.setTx F).preload = s.preload := rfl
@[simp] theorem State.setTx_requests (s : State) (F : Fifo) : (s.setTx F).requests = s.requests := rfl
@[simp] theorem State.setTx_freeDraws (s : State) (F : Fifo) : (s.setTx F).freeDraws = s.freeDraws := rfl

/-! `State.sinkEmit` -/

@[simp] theorem State.sinkEmit_life (s : State) (b : Byte) : (s.sinkEmit b).life = s.life := rfl
@[simp] theorem State.sinkEmit_rx (s : State) (b : Byte) : (s.sinkEmit b).rx = s.rx := rfl
@[simp] theorem State.sinkEmit_tx (s : State) (b : Byte) : (s.sinkEmit b).tx = s.tx := rfl
@[simp] theorem State.sinkEmit_IER (s : State) (b : Byte) : (s.sinkEmit b).IER = s.IER := rfl
@[simp] theorem State.sinkEmit_IIR (s : State) (b : Byte) : (s.sinkEmit b).IIR = s.IIR := rfl
@[simp] theorem State.sinkEmit_FCR (s : State) (b : Byte) : (s.sinkEmit b).FCR = s.FCR := rfl
@[simp] theorem State.sinkEmit_LCR (s : State) (b : Byte) : (s.sinkEmit b).LCR = s.LCR := rfl
@[simp] theorem State.sinkEmit_MCR (s : State) (b : Byte) : (s.sinkEmit b).MCR = s.MCR := rfl
@[simp] theorem State.sinkEmit_MSR (s : State) (b : Byte) : (s.sinkEmit b).MSR = s.MSR := rfl
@[simp] theorem State.sinkEmit_SCR (s : State) (b : Byte) : (s.sinkEmit b).SCR = s.SCR := rfl
@[simp] theorem State.sinkEmit_sink (s : State) (b : Byte) : (s.sinkEmit b).sink = s.sink ++ [b] := rfl
@[simp] theorem State.sinkEmit_result (s : State) (b : Byte) : (s.sinkEmit b).result = s.result := rfl
@[simp] theorem State.sinkEmit_preload (s : State) (b : Byte) : (s.sinkEmit b).preload = s.preload := rfl
@[simp] theorem State.sinkEmit_requests (s : State) (b : Byte) : (s.sinkEmit b).requests = s.requests := rfl
@[simp] theorem State.sinkEmit_freeDraws (s : State) (b : Byte) : (s.sinkEmit b).freeDraws = s.freeDraws := rfl

/-! `State.setResult` -/

@[simp] theorem State.setResult_life (s : State) (r : Result) : (s.setResult r).life = s.life := rfl
@[simp] theorem State.setResult_rx (s : State) (r : Result) : (s.setResult r).rx = s.rx := rfl
@[simp] theorem State.setResult_tx (s : State) (r : Result) : (s.setResult r).tx = s.tx := rfl
@[simp] theorem State.setResult_IER (s : State) (r : Result) : (s.setResult r).IER = s.IER := rfl
@[simp] theorem State.setResult_IIR (s : State) (r : Result) : (s.setResult r).IIR = s.IIR := rfl
@[simp] theorem State.setResult_FCR (s : State) (r : Result) : (s.setResult r).FCR = s.FCR := rfl
@[simp] theorem State.setResult_LCR (s : State) (r : Result) : (s.setResult r).LCR = s.LCR := rfl
@[simp] theorem State.setResult_MCR (s : State) (r : Result) : (s.setResult r).MCR = s.MCR := rfl
@[simp] theorem State.setResult_MSR (s : State) (r : Result) : (s.setResult r).MSR = s.MSR := rfl
@[simp] theorem State.setResult_SCR (s : State) (r : Result) : (s.setResult r).SCR = s.SCR := rfl
@[simp] theorem State.setResult_sink (s : State) (r : Result) : (s.setResult r).sink = s.sink := rfl
@[simp] theorem State.setResult_result (s : State) (r : Result) : (s.setResult r).result = r := rfl
@[simp] theorem State.setResult_preload (s : State) (r : Result) : (s.setResult r).preload = s.preload := rfl
@[simp] theorem State.setResult_requests (s : State) (r : Result) : (s.setResult r).requests = s.requests := rfl
@[simp] theorem State.setResult_freeDraws (s : State) (r : Result) : (s.setResult r).freeDraws = s.freeDraws := rfl

/-! `State.pushRx` -/

@[simp] theorem State.pushRx_life (s : State) (v : Byte) : (s.pushRx v).life = s.life := rfl
@[simp] theorem State.pushRx_rx (s : State) (v : Byte) : (s.pushRx v).rx = s.rx.enqueue v := rfl
@[simp] theorem State.pushRx_tx (s : State) (v : Byte) : (s.pushRx v).tx = s.tx := rfl
@[simp] theorem State.pushRx_IER (s : State) (v : Byte) : (s.pushRx v).IER = s.IER := rfl
@[simp] theorem State.pushRx_IIR (s : State) (v : Byte) : (s.pushRx v).IIR = s.IIR := rfl
@[simp] theorem State.pushRx_FCR (s : State) (v : Byte) : (s.pushRx v).FCR = s.FCR := rfl
@[simp] theorem State.pushRx_LCR (s : State) (v : Byte) : (s.pushRx v).LCR = s.LCR := rfl
@[simp] theorem State.pushRx_MCR (s : State) (v : Byte) : (s.pushRx v).MCR = s.MCR := rfl
@[simp] theorem State.pushRx_MSR (s : State) (v : Byte) : (s.pushRx v).MSR = s.MSR := rfl
@[simp] theorem State.pushRx_SCR (s : State) (v : Byte) : (s.pushRx v).SCR = s.SCR := rfl
@[simp] theorem State.pushRx_sink (s : State) (v : Byte) : (s.pushRx v).sink = s.sink := rfl
@[simp] theorem State.pushRx_result (s : State) (v : Byte) : (s.pushRx v).result = s.result := rfl
@[simp] theorem State.pushRx_preload (s : State) (v : Byte) : (s.pushRx v).preload = s.preload := rfl
@[simp] theorem State.pushRx_requests (s : State) (v : Byte) : (s.pushRx v).requests = s.requests := rfl
@[simp] theorem State.pushRx_freeDraws (s : State) (v : Byte) : (s.pushRx v).freeDraws = s.freeDraws := rfl

/-! `State.pushTx` -/

@[simp] theorem State.pushTx_life (s : State) (v : Byte) : (s.pushTx v).life = s.life := rfl
@[simp] theorem State.pushTx_rx (s : State) (v : Byte) : (s.pushTx v).rx = s.rx := rfl
@[simp] theorem State.pushTx_tx (s : State) (v : Byte) : (s.pushTx v).tx = s.tx.enqueue v := rfl
@[simp] theorem State.pushTx_IER (s : State) (v : Byte) : (s.pushTx v).IER = s.IER := rfl
@[simp] theorem State.pushTx_IIR (s : State) (v : Byte) : (s.pushTx v).IIR = s.IIR := rfl
@[simp] theorem State.pushTx_FCR (s : State) (v : Byte) : (s.pushTx v).FCR = s.FCR := rfl
@[simp] theorem State.pushTx_LCR (s : State) (v : Byte) : (s.pushTx v).LCR = s.LCR := rfl
@[simp] theorem State.pushTx_MCR (s : State) (v : Byte) : (s.pushTx v).MCR = s.MCR := rfl
@[simp] theorem State.pushTx_MSR (s : State) (v : Byte) : (s.pushTx v).MSR = s.MSR := rfl
@[simp] theorem State.pushTx_SCR (s : State) (v : Byte) : (s.pushTx v).SCR = s.SCR := rfl
@[simp] theorem State.pushTx_sink (s : State) (v : Byte) : (s.pushTx v).sink = s.sink := rfl
@[simp] theorem State.pushTx_result (s : State) (v : Byte) : (s.pushTx v).result = s.result := rfl
@[simp] theorem State.pushTx_preload (s : State) (v : Byte) : (s.pushTx v).preload = s.preload := rfl
@[simp] theorem State.pushTx_requests (s : State) (v : Byte) : (s.pushTx v).requests = s.requests := rfl
@[simp] theorem State.pushTx_freeDraws (s : State) (v : Byte) : (s.pushTx v).freeDraws = s.freeDraws := rfl

/-! `State.popRx` -/

@[simp] theorem State.popRx_life (s : State) : (s.popRx).life = s.life := rfl
@[simp] theorem State.popRx_rx (s : State) : (s.popRx).rx = (s.rx.dequeue Config.rxEmptyValue).2 := rfl
@[simp] theorem State.popRx_tx (s : State) : (s.popRx).tx = s.tx := rfl
@[simp] theorem State.popRx_IER (s : State) : (s.popRx).IER = s.IER := rfl
@[simp] theorem State.popRx_IIR (s : State) : (s.popRx).IIR = s.IIR := rfl
@[simp] theorem State.popRx_FCR (s : State) : (s.popRx).FCR = s.FCR := rfl
@[simp] theorem State.popRx_LCR (s : State) : (s.popRx).LCR = s.LCR := rfl
@[simp] theorem State.popRx_MCR (s : State) : (s.popRx).MCR = s.MCR := rfl
@[simp] theorem State.popRx_MSR (s : State) : (s.popRx).MSR = s.MSR := rfl
@[simp] theorem State.popRx_SCR (s : State) : (s.popRx).SCR = s.SCR := rfl
@[simp] theorem State.popRx_sink (s : State) : (s.popRx).sink = s.sink := rfl
@[simp] theorem State.popRx_result (s : State) : (s.popRx).result = .byte (s.rx.dequeue Config.rxEmptyValue).1 := rfl
@[simp] theorem State.popRx_preload (s : State) : (s.popRx).preload = s.preload := rfl
@[simp] theorem State.popRx_requests (s : State) : (s.popRx).requests = s.requests := rfl
@[simp] theorem State.popRx_freeDraws (s : State) : (s.popRx).freeDraws = s.freeDraws := rfl

/-! `State.popTx` -/

@[simp] theorem State.popTx_life (s : State) : (s.popTx).life = s.life := rfl
@[simp] theorem State.popTx_rx (s : State) : (s.popTx).rx = s.rx := rfl
@[simp] theorem State.popTx_tx (s : State) : (s.popTx).tx = (s.tx.dequeue Config.txEmptyValue).2 := rfl
@[simp] theorem State.popTx_IER (s : State) : (s.popTx).IER = s.IER := rfl
@[simp] theorem State.popTx_IIR (s : State) : (s.popTx).IIR = s.IIR := rfl
@[simp] theorem State.popTx_FCR (s : State) : (s.popTx).FCR = s.FCR := rfl
@[simp] theorem State.popTx_LCR (s : State) : (s.popTx).LCR = s.LCR := rfl
@[simp] theorem State.popTx_MCR (s : State) : (s.popTx).MCR = s.MCR := rfl
@[simp] theorem State.popTx_MSR (s : State) : (s.popTx).MSR = s.MSR := rfl
@[simp] theorem State.popTx_SCR (s : State) : (s.popTx).SCR = s.SCR := rfl
@[simp] theorem State.popTx_sink (s : State) : (s.popTx).sink = s.sink := rfl
@[simp] theorem State.popTx_result (s : State) : (s.popTx).result = .byte (s.tx.dequeue Config.txEmptyValue).1 := rfl
@[simp] theorem State.popTx_preload (s : State) : (s.popTx).preload = s.preload := rfl
@[simp] theorem State.popTx_requests (s : State) : (s.popTx).requests = s.requests := rfl
@[simp] theorem State.popTx_freeDraws (s : State) : (s.popTx).freeDraws = s.freeDraws := rfl

/-! `State.resetRegisters` -/

@[simp] theorem State.resetRegisters_life (s : State) : (s.resetRegisters).life = s.life := rfl
@[simp] theorem State.resetRegisters_rx (s : State) : (s.resetRegisters).rx = s.rx := rfl
@[simp] theorem State.resetRegisters_tx (s : State) : (s.resetRegisters).tx = s.tx := rfl
@[simp] theorem State.resetRegisters_IER (s : State) : (s.resetRegisters).IER = Config.resetIER := rfl
@[simp] theorem State.resetRegisters_IIR (s : State) : (s.resetRegisters).IIR = Config.resetIIR := rfl
@[simp] theorem State.resetRegisters_FCR (s : State) : (s.resetRegisters).FCR = Config.resetFCR := rfl
@[simp] theorem State.resetRegisters_LCR (s : State) : (s.resetRegisters).LCR = Config.resetLCR := rfl
@[simp] theorem State.resetRegisters_MCR (s : State) : (s.resetRegisters).MCR = Config.resetMCR := rfl
@[simp] theorem State.resetRegisters_MSR (s : State) : (s.resetRegisters).MSR = Config.resetMSR := rfl
@[simp] theorem State.resetRegisters_SCR (s : State) : (s.resetRegisters).SCR = Config.resetSCR := rfl
@[simp] theorem State.resetRegisters_sink (s : State) : (s.resetRegisters).sink = s.sink := rfl
@[simp] theorem State.resetRegisters_result (s : State) : (s.resetRegisters).result = s.result := rfl
@[simp] theorem State.resetRegisters_preload (s : State) : (s.resetRegisters).preload = s.preload := rfl
@[simp] theorem State.resetRegisters_requests (s : State) : (s.resetRegisters).requests = s.requests := rfl
@[simp] theorem State.resetRegisters_freeDraws (s : State) : (s.resetRegisters).freeDraws = s.freeDraws := rfl

/-! `State.drawRegisters` -/

@[simp] theorem State.drawRegisters_life (s : State) : (s.drawRegisters).life = s.life := rfl
@[simp] theorem State.drawRegisters_rx (s : State) : (s.drawRegisters).rx = s.rx := rfl
@[simp] theorem State.drawRegisters_tx (s : State) : (s.drawRegisters).tx = s.tx := rfl
@[simp] theorem State.drawRegisters_IER (s : State) : (s.drawRegisters).IER = Config.freeByte s.freeDraws := rfl
@[simp] theorem State.drawRegisters_IIR (s : State) : (s.drawRegisters).IIR = Config.freeByte (s.freeDraws + 1) := rfl
@[simp] theorem State.drawRegisters_FCR (s : State) : (s.drawRegisters).FCR = Config.freeByte (s.freeDraws + 2) := rfl
@[simp] theorem State.drawRegisters_LCR (s : State) : (s.drawRegisters).LCR = Config.freeByte (s.freeDraws + 3) := rfl
@[simp] theorem State.drawRegisters_MCR (s : State) : (s.drawRegisters).MCR = Config.freeByte (s.freeDraws + 4) := rfl
@[simp] theorem State.drawRegisters_MSR (s : State) : (s.drawRegisters).MSR = Config.freeByte (s.freeDraws + 5) := rfl
@[simp] theorem State.drawRegisters_SCR (s : State) : (s.drawRegisters).SCR = Config.freeByte (s.freeDraws + 6) := rfl
@[simp] theorem State.drawRegisters_sink (s : State) : (s.drawRegisters).sink = s.sink := rfl
@[simp] theorem State.drawRegisters_result (s : State) : (s.drawRegisters).result = s.result := rfl
@[simp] theorem State.drawRegisters_preload (s : State) : (s.drawRegisters).preload = s.preload := rfl
@[simp] theorem State.drawRegisters_requests (s : State) : (s.drawRegisters).requests = s.requests := rfl
@[simp] theorem State.drawRegisters_freeDraws (s : State) : (s.drawRegisters).freeDraws = s.freeDraws + 7 := rfl

/-! `State.writeReg` and `State.readReg` -/

@[simp] theorem State.writeReg_life (s : State) (r : Reg) (v : Byte) : (s.writeReg r v).life = s.life := by
  cases r <;> rfl
@[simp] theorem State.writeReg_rx (s : State) (r : Reg) (v : Byte) : (s.writeReg r v).rx = s.rx := by
  cases r <;> rfl
@[simp] theorem State.writeReg_tx (s : State) (r : Reg) (v : Byte) : (s.writeReg r v).tx = s.tx := by
  cases r <;> rfl
@[simp] theorem State.writeReg_IER (s : State) (v : Byte) : (s.writeReg .IER v).IER = v := rfl
theorem State.writeReg_IER_of_ne (s : State) {r : Reg} (v : Byte) (h : r ≠ .IER) : (s.writeReg r v).IER = s.IER := by
  cases r <;> first | rfl | exact absurd rfl h
@[simp] theorem State.writeReg_IIR (s : State) (v : Byte) : (s.writeReg .IIR v).IIR = v := rfl
theorem State.writeReg_IIR_of_ne (s : State) {r : Reg} (v : Byte) (h : r ≠ .IIR) : (s.writeReg r v).IIR = s.IIR := by
  cases r <;> first | rfl | exact absurd rfl h
@[simp] theorem State.writeReg_FCR (s : State) (v : Byte) : (s.writeReg .FCR v).FCR = v := rfl
theorem State.writeReg_FCR_of_ne (s : State) {r : Reg} (v : Byte) (h : r ≠ .FCR) : (s.writeReg r v).FCR = s.FCR := by
  cases r <;> first | rfl | exact absurd rfl h
@[simp] theorem State.writeReg_LCR (s : State) (v : Byte) : (s.writeReg .LCR v).LCR = v := rfl
theorem State.writeReg_LCR_of_ne (s : State) {r : Reg} (v : Byte) (h : r ≠ .LCR) : (s.writeReg r v).LCR = s.LCR := by
  cases r <;> first | rfl | exact absurd rfl h
@[simp] theorem State.writeReg_MCR (s : State) (v : Byte) : (s.writeReg .MCR v).MCR = v := rfl
theorem State.writeReg_MCR_of_ne (s : State) {r : Reg} (v : Byte) (h : r ≠ .MCR) : (s.writeReg r v).MCR = s.MCR := by
  cases r <;> first | rfl | exact absurd rfl h
@[simp] theorem State.writeReg_MSR (s : State) (v : Byte) : (s.writeReg .MSR v).MSR = v := rfl
theorem State.writeReg_MSR_of_ne (s : State) {r : Reg} (v : Byte) (h : r ≠ .MSR) : (s.writeReg r v).MSR = s.MSR := by
  cases r <;> first | rfl | exact absurd rfl h
@[simp] theorem State.writeReg_SCR (s : State) (v : Byte) : (s.writeReg .SCR v).SCR = v := rfl
theorem State.writeReg_SCR_of_ne (s : State) {r : Reg} (v : Byte) (h : r ≠ .SCR) : (s.writeReg r v).SCR = s.SCR := by
  cases r <;> first | rfl | exact absurd rfl h
@[simp] theorem State.writeReg_sink (s : State) (r : Reg) (v : Byte) : (s.writeReg r v).sink = s.sink := by
  cases r <;> rfl
@[simp] theorem State.writeReg_result (s : State) (r : Reg) (v : Byte) : (s.writeReg r v).result = s.result := by
  cases r <;> rfl
@[simp] theorem State.writeReg_preload (s : State) (r : Reg) (v : Byte) : (s.writeReg r v).preload = s.preload := by
  cases r <;> rfl
@[simp] theorem State.writeReg_requests (s : State) (r : Reg) (v : Byte) : (s.writeReg r v).requests = s.requests := by
  cases r <;> rfl
@[simp] theorem State.writeReg_freeDraws (s : State) (r : Reg) (v : Byte) : (s.writeReg r v).freeDraws = s.freeDraws := by
  cases r <;> rfl

/-- A register read after a write to it gives the byte written. -/
@[simp] theorem State.readReg_writeReg_self (s : State) (r : Reg) (v : Byte) : (s.writeReg r v).readReg r = v := by
  cases r <;> rfl

/-- A write to one register leaves every other alone. -/
theorem State.readReg_writeReg_of_ne (s : State) {r q : Reg} (v : Byte) (h : q ≠ r) :
    (s.writeReg r v).readReg q = s.readReg q := by
  cases r <;> cases q <;> first | rfl | exact absurd rfl h

/-- Writing back what a register holds changes nothing. -/
theorem State.writeReg_readReg (s : State) (r : Reg) : s.writeReg r (s.readReg r) = s := by
  cases r <;> rfl

/-- The last write wins. -/
theorem State.writeReg_writeReg (s : State) (r : Reg) (v w : Byte) : (s.writeReg r v).writeReg r w = s.writeReg r w := by
  cases r <;> rfl

/-- Writes to two registers commute. -/
theorem State.writeReg_comm (s : State) {r q : Reg} (v w : Byte) (h : r ≠ q) :
    (s.writeReg r v).writeReg q w = (s.writeReg q w).writeReg r v := by
  cases r <;> cases q <;> first | rfl | exact absurd rfl h

end Sys2Proof.Machine
end

