-- ==== Sys2Proof/Laws/Ops.lean ====
section
/-!
SUPPORT. What the shared endings of an operation, the fetch and the step can do, said once each.
-/
namespace Sys2Proof.Machine

/-- An operation that ends by `whenReady` answers a next state exactly when the block is Ready. -/
theorem whenReady_eq_next {s t u : State} : whenReady s t = .next u ↔ s.life = .ready ∧ t = u := by
  unfold whenReady
  cases s.life <;> simp

theorem whenReady_of_ready {s t : State} (h : s.life = .ready) : whenReady s t = .next t := by
  simp [whenReady, h]

theorem whenReady_of_uninitialized {s t : State} (h : s.life = .uninitialized) :
    whenReady s t = .refused .uninitialized := by
  simp [whenReady, h]

theorem returnByte_of_ready {s : State} {v : Byte} (h : s.life = .ready) :
    returnByte v s = .next { s with result := .byte v } := whenReady_of_ready h

theorem returnNothing_of_ready {s t : State} (h : s.life = .ready) :
    returnNothing s t = .next { t with result := .nothing } := whenReady_of_ready h

/-- Whatever `returnByte` answers as a next state differs from the state before in the result alone. -/
theorem returnByte_eq_next {s t : State} {v : Byte} :
    returnByte v s = .next t ↔ s.life = .ready ∧ { s with result := .byte v } = t := whenReady_eq_next

theorem returnNothing_eq_next {s t u : State} :
    returnNothing s t = .next u ↔ s.life = .ready ∧ { t with result := .nothing } = u := whenReady_eq_next

theorem takeRequest_nil {s : State} (h : s.requests = []) : takeRequest s = none := by
  simp [takeRequest, h]

theorem takeRequest_cons {s : State} {r : Request} {rest : List Request} (h : s.requests = r :: rest) :
    takeRequest s = some (r, { s with requests := rest }) := by
  simp [takeRequest, h]

/-- Everything a step can do: stay idle, refuse a transfer that is not one byte wide, or run one operation. -/
theorem step_cases (s : State) :
    (s.requests = [] ∧ step s = .next s) ∨
      (∃ r rest, s.requests = r :: rest ∧ r.commandWord = none ∧ step s = .refused .notOneByte) ∨
      ∃ r rest c, s.requests = r :: rest ∧ r.commandWord = some c ∧
        step s = exec (decode c) { s with requests := rest } := by
  cases hq : s.requests with
  | nil => exact .inl ⟨rfl, by simp [step, takeRequest_nil hq, idle]⟩
  | cons r rest =>
    right
    cases hc : r.commandWord with
    | none => exact .inl ⟨r, rest, rfl, hc, by simp [step, takeRequest_cons hq, hc, refuseWidth]⟩
    | some c => exact .inr ⟨r, rest, c, rfl, hc, by simp [step, takeRequest_cons hq, hc]⟩

/-- Inside the window, and only there, an address is an offset. -/
theorem windowOffset_some (base : Nat) (off : Byte) : windowOffset base (base + off.toNat) = some off := by
  have := off.isLt
  simp [windowOffset, this]

theorem windowOffset_none {base addr : Nat} (h : addr < base ∨ base + 256 ≤ addr) : windowOffset base addr = none := by
  simp only [windowOffset, ite_eq_right_iff]
  omega

end Sys2Proof.Machine
end

