-- ==== Sys2Proof/Laws/PerInstr.lean ====
section
/-!
SUPPORT. Per operation: the encoder's word lies in the operation's own row of the opcode table (30_encoding.md R64).
-/
namespace Sys2Proof

/-- Masking a packed word masks its fields. -/
theorem pack_and_pack (p q : BitVec 3) (w x : Bool) (o r d e : Byte) :
    packCommand p w o d &&& packCommand q x r e = packCommand (p &&& q) (w && x) (o &&& r) (d &&& e) := by
  unfold packCommand
  ext i hi
  simp
  grind

/-- Masking the whole operation and offset field, as the rows of one mapped offset do. -/
theorem pack_and_FFF00 (p : BitVec 3) (w : Bool) (o d : Byte) :
    packCommand p w o d &&& 0xFFF00 = packCommand p w o 0 := by
  rw [show (0xFFF00 : CommandWord) = packCommand 7 true 0xFF 0 from rfl, pack_and_pack]
  congr 1
  · revert p; decide
  · simp
  · revert o; decide
  · simp

/-- Masking port and write bit, as the rows of the other ports do. -/
theorem pack_and_F0000 (p : BitVec 3) (w : Bool) (o d : Byte) :
    packCommand p w o d &&& 0xF0000 = packCommand p w 0 0 := by
  rw [show (0xF0000 : CommandWord) = packCommand 7 true 0 0 from rfl, pack_and_pack]
  congr 1
  · revert p; decide
  · simp
  · simp
  · simp

/-- Masking with an unmapped row's offset mask. -/
theorem pack_and_offMask (w : Bool) (o d m : Byte) :
    packCommand 0 w o d &&& packCommand 7 true m 0 = packCommand 0 w (o &&& m) 0 := by
  rw [pack_and_pack]
  simp

theorem offset_08 : ∀ o : Byte, offsetIn 0x08 0x0F o = true → o &&& 0xF8 = 0x08 := by decide
theorem offset_10 : ∀ o : Byte, offsetIn 0x10 0x1F o = true → o &&& 0xF0 = 0x10 := by decide
theorem offset_20 : ∀ o : Byte, offsetIn 0x20 0x3F o = true → o &&& 0xE0 = 0x20 := by decide
theorem offset_40 : ∀ o : Byte, offsetIn 0x40 0x7F o = true → o &&& 0xC0 = 0x40 := by decide
theorem offset_80 : ∀ o : Byte, offsetIn 0x80 0xFF o = true → o &&& 0x80 = 0x80 := by decide

namespace Laws.EncodesInItsRow

/-- The word of a well-formed operation matches the operation's row. -/
def Statement (i : Instr) : Prop := i.wellFormed = true → encode i &&& i.row.mask = i.row.pattern

theorem rdRbr : Statement .rdRbr := fun _ => rfl
theorem rdIer : Statement .rdIer := fun _ => rfl
theorem rdIir : Statement .rdIir := fun _ => rfl
theorem rdLcr : Statement .rdLcr := fun _ => rfl
theorem rdMcr : Statement .rdMcr := fun _ => rfl
theorem rdLsr : Statement .rdLsr := fun _ => rfl
theorem rdMsr : Statement .rdMsr := fun _ => rfl
theorem rdScr : Statement .rdScr := fun _ => rfl
theorem rdUnmapped08 (off : Byte) : Statement (.rdUnmapped08 off) := fun h => by
  have hm := pack_and_offMask false off 0 0xF8
  rw [offset_08 off h] at hm
  exact hm
theorem rdUnmapped10 (off : Byte) : Statement (.rdUnmapped10 off) := fun h => by
  have hm := pack_and_offMask false off 0 0xF0
  rw [offset_10 off h] at hm
  exact hm
theorem rdUnmapped20 (off : Byte) : Statement (.rdUnmapped20 off) := fun h => by
  have hm := pack_and_offMask false off 0 0xE0
  rw [offset_20 off h] at hm
  exact hm
theorem rdUnmapped40 (off : Byte) : Statement (.rdUnmapped40 off) := fun h => by
  have hm := pack_and_offMask false off 0 0xC0
  rw [offset_40 off h] at hm
  exact hm
theorem rdUnmapped80 (off : Byte) : Statement (.rdUnmapped80 off) := fun h => by
  have hm := pack_and_offMask false off 0 0x80
  rw [offset_80 off h] at hm
  exact hm
theorem wrThr (v : Byte) : Statement (.wrThr v) := fun _ => pack_and_FFF00 0 true _ v
theorem wrIer (v : Byte) : Statement (.wrIer v) := fun _ => pack_and_FFF00 0 true _ v
theorem wrFcr (v : Byte) : Statement (.wrFcr v) := fun _ => pack_and_FFF00 0 true _ v
theorem wrLcr (v : Byte) : Statement (.wrLcr v) := fun _ => pack_and_FFF00 0 true _ v
theorem wrMcr (v : Byte) : Statement (.wrMcr v) := fun _ => pack_and_FFF00 0 true _ v
theorem wrLsr (v : Byte) : Statement (.wrLsr v) := fun _ => pack_and_FFF00 0 true _ v
theorem wrMsr (v : Byte) : Statement (.wrMsr v) := fun _ => pack_and_FFF00 0 true _ v
theorem wrScr (v : Byte) : Statement (.wrScr v) := fun _ => pack_and_FFF00 0 true _ v
theorem wrUnmapped08 (off v : Byte) : Statement (.wrUnmapped08 off v) := fun h => by
  have hm := pack_and_offMask true off v 0xF8
  rw [offset_08 off h] at hm
  exact hm
theorem wrUnmapped10 (off v : Byte) : Statement (.wrUnmapped10 off v) := fun h => by
  have hm := pack_and_offMask true off v 0xF0
  rw [offset_10 off h] at hm
  exact hm
theorem wrUnmapped20 (off v : Byte) : Statement (.wrUnmapped20 off v) := fun h => by
  have hm := pack_and_offMask true off v 0xE0
  rw [offset_20 off h] at hm
  exact hm
theorem wrUnmapped40 (off v : Byte) : Statement (.wrUnmapped40 off v) := fun h => by
  have hm := pack_and_offMask true off v 0xC0
  rw [offset_40 off h] at hm
  exact hm
theorem wrUnmapped80 (off v : Byte) : Statement (.wrUnmapped80 off v) := fun h => by
  have hm := pack_and_offMask true off v 0x80
  rw [offset_80 off h] at hm
  exact hm
theorem txpop : Statement .txpop := fun _ => rfl
theorem rxpush (v : Byte) : Statement (.rxpush v) := fun _ => pack_and_F0000 _ true 0 v
theorem teardown : Statement .teardown := fun _ => rfl
theorem init : Statement .init := fun _ => rfl
theorem fstat : Statement .fstat := fun _ => rfl
theorem reservedDiagW : Statement .reservedDiagW := fun _ => rfl
theorem brd : Statement .brd := fun _ => rfl
theorem bwr (v : Byte) : Statement (.bwr v) := fun _ => pack_and_F0000 _ true 0 v
theorem reservedPort5 : Statement .reservedPort5 := fun _ => rfl
theorem reservedPort67 : Statement .reservedPort67 := fun _ => rfl

end Laws.EncodesInItsRow

end Sys2Proof
end

