-- ==== Sys2Proof/Laws/Run.lean ====
section
/-!
SUPPORT. Runs: one step at a time, in two parts, and as the host runs a machine.
-/
namespace Sys2Proof.Machine

@[simp] theorem run_zero (s : State) : run 0 s = .next s := rfl

theorem run_succ_of_next {k : Nat} {s t : State} (h : step s = .next t) : run (k + 1) s = run k t := by
  simp [run, h]

theorem run_succ_of_refused {k : Nat} {s : State} {r : Refusal} (h : step s = .refused r) :
    run (k + 1) s = .refused r := by
  simp [run, h]

/-- A run of `m + n` steps is a run of `m` steps and then one of `n` from where it ended. -/
theorem run_add_of_next {m n : Nat} {s t : State} (h : run m s = .next t) : run (m + n) s = run n t := by
  induction m generalizing s with
  | zero => cases h; simp
  | succ m ih =>
    rw [show m + 1 + n = (m + n) + 1 by omega]
    cases hs : step s with
    | next u => rw [run_succ_of_next hs] at h; rw [run_succ_of_next hs]; exact ih h
    | fault r => exact nomatch r
    | refused r => rw [run_succ_of_refused hs] at h; cases h

/-- The runs claims are stated in are the runs of the host's interface. -/
theorem run_eq_core_run (k : Nat) (s : State) : run k s = Host.Core.run Sys2Proof.core k s := by
  induction k generalizing s with
  | zero => rfl
  | succ k ih =>
    have hc : Host.Core.run core (k + 1) s =
        match (motive := Outcome → Outcome) core.step s with
        | .next t => Host.Core.run core k t
        | .fault r => .fault r
        | .refused r => .refused r := by
      simp only [Host.Core.run]
      cases core.step s <;> rfl
    rw [hc]
    change _ = match (motive := Outcome → Outcome) step s with
        | .next t => Host.Core.run core k t
        | .fault r => .fault r
        | .refused r => .refused r
    cases hs : step s with
    | next t => rw [run_succ_of_next hs]; exact ih t
    | fault r => exact nomatch r
    | refused r => rw [run_succ_of_refused hs]

end Sys2Proof.Machine
end

