-- ==== Sys2Proof/Tests/Slice0.lean ====
section
/-!
SUPPORT. The model's own tests. Expected values come from spec/95_test_vectors.md (the vector is named) or from the
rule cited; the witnesses show a state and operands that meet the hypotheses of each statement.
-/
namespace Sys2Proof.Tests

open Sys2Proof.Machine

/-! Helpers: a FIFO with given cursors and slots, a Ready state with given FIFOs, and what an outcome holds. -/

def fifo (head tail : Cursor) (slots : List (Nat × Byte)) : Fifo :=
  { buf := slots.foldl (fun b p => b.setIfInBounds p.1 p.2) Fifo.cleared.buf, head := head, tail := tail }

def ready (rx tx : Fifo) : State := { State.reset with rx := rx, tx := tx }

def stateOf : Outcome → Option State
  | .next s => some s
  | _ => none

def refusalOf : Outcome → Option Refusal
  | .refused r => some r
  | _ => none

/-- The start state of the table V-RD. -/
def vrd : State :=
  { State.reset with rx := fifo 0 2 [(0, 0x31), (1, 0x32)], IER := 0x0F, FCR := 0xC7, LCR := 0x1B, MCR := 0x03, SCR := 0xA5 }

/-- Every register different, both FIFOs wrapped and the receive side full: nothing here is what reset leaves. -/
def busy : State :=
  { vrd with rx := fifo 5 4 [(5, 0x71), (4, 0xEE)], tx := fifo 15 2 [(15, 0x99), (0, 0x01), (1, 0x02)], sink := [0x58], result := .byte 0x77 }

/-! WellFormed: a term outside each row's range, on both sides where there is one. -/

theorem test_ill_formed_rd08 : (Instr.rdUnmapped08 0x07).wellFormed = false ∧ (Instr.rdUnmapped08 0x10).wellFormed = false := by decide
theorem test_ill_formed_rd10 : (Instr.rdUnmapped10 0x0F).wellFormed = false ∧ (Instr.rdUnmapped10 0x20).wellFormed = false := by decide
theorem test_ill_formed_rd20 : (Instr.rdUnmapped20 0x1F).wellFormed = false ∧ (Instr.rdUnmapped20 0x40).wellFormed = false := by decide
theorem test_ill_formed_rd40 : (Instr.rdUnmapped40 0x3F).wellFormed = false ∧ (Instr.rdUnmapped40 0x80).wellFormed = false := by decide
theorem test_ill_formed_rd80 : (Instr.rdUnmapped80 0x7F).wellFormed = false ∧ (Instr.rdUnmapped80 0x00).wellFormed = false := by decide
theorem test_ill_formed_wr08 : (Instr.wrUnmapped08 0x07 0).wellFormed = false ∧ (Instr.wrUnmapped08 0x10 0).wellFormed = false := by decide
theorem test_ill_formed_wr10 : (Instr.wrUnmapped10 0x0F 0).wellFormed = false ∧ (Instr.wrUnmapped10 0x20 0).wellFormed = false := by decide
theorem test_ill_formed_wr20 : (Instr.wrUnmapped20 0x1F 0).wellFormed = false ∧ (Instr.wrUnmapped20 0x40 0).wellFormed = false := by decide
theorem test_ill_formed_wr40 : (Instr.wrUnmapped40 0x3F 0).wellFormed = false ∧ (Instr.wrUnmapped40 0x80 0).wellFormed = false := by decide
theorem test_ill_formed_wr80 : (Instr.wrUnmapped80 0x7F 0).wellFormed = false ∧ (Instr.wrUnmapped80 0x00 0).wellFormed = false := by decide

/-! Decoding: one word or more of every row, written out from `pppwoooooooodddddddd` (R61, R64) and V-ENC. -/

theorem test_decode_rdRbr : decode 0b00000000000000000000#20 = .rdRbr := by decide
theorem test_decode_rdIer : decode 0b00000000000100000000#20 = .rdIer := by decide
theorem test_decode_rdIir : decode 0b00000000001000000000#20 = .rdIir := by decide
theorem test_decode_rdLcr : decode 0b00000000001100000000#20 = .rdLcr := by decide
theorem test_decode_rdMcr : decode 0b00000000010000000000#20 = .rdMcr := by decide
theorem test_decode_rdLsr : decode 0b00000000010110100111#20 = .rdLsr := by decide
theorem test_decode_rdMsr : decode 0b00000000011000000000#20 = .rdMsr := by decide
theorem test_decode_rdScr : decode 0b00000000011111111111#20 = .rdScr := by decide
theorem test_decode_rdUnmapped08 : decode 0x00800#20 = .rdUnmapped08 0x08 ∧ decode 0x00F00#20 = .rdUnmapped08 0x0F := by decide
theorem test_decode_rdUnmapped10 : decode 0x01000#20 = .rdUnmapped10 0x10 ∧ decode 0x01F00#20 = .rdUnmapped10 0x1F := by decide
theorem test_decode_rdUnmapped20 : decode 0x02000#20 = .rdUnmapped20 0x20 ∧ decode 0x03F00#20 = .rdUnmapped20 0x3F := by decide
theorem test_decode_rdUnmapped40 : decode 0x04000#20 = .rdUnmapped40 0x40 ∧ decode 0x07F00#20 = .rdUnmapped40 0x7F := by decide
theorem test_decode_rdUnmapped80 : decode 0x08000#20 = .rdUnmapped80 0x80 ∧ decode 0x0FF00#20 = .rdUnmapped80 0xFF := by decide
theorem test_decode_wrThr : decode 0b00010000000001000001#20 = .wrThr 0x41 := by decide
theorem test_decode_wrIer : decode 0b00010000000111111111#20 = .wrIer 0xFF := by decide
theorem test_decode_wrFcr : decode 0b00010000001011000111#20 = .wrFcr 0xC7 := by decide
theorem test_decode_wrLcr : decode 0b00010000001110000011#20 = .wrLcr 0x83 := by decide
theorem test_decode_wrMcr : decode 0b00010000010000011111#20 = .wrMcr 0x1F := by decide
theorem test_decode_wrLsr : decode 0b00010000010111111111#20 = .wrLsr 0xFF := by decide
theorem test_decode_wrMsr : decode 0b00010000011010101011#20 = .wrMsr 0xAB := by decide
theorem test_decode_wrScr : decode 0b00010000011101011010#20 = .wrScr 0x5A := by decide
theorem test_decode_wrUnmapped08 : decode 0x10841#20 = .wrUnmapped08 0x08 0x41 := by decide
theorem test_decode_wrUnmapped10 : decode 0x11FA5#20 = .wrUnmapped10 0x1F 0xA5 := by decide
theorem test_decode_wrUnmapped20 : decode 0x12081#20 = .wrUnmapped20 0x20 0x81 := by decide
theorem test_decode_wrUnmapped40 : decode 0x17F18#20 = .wrUnmapped40 0x7F 0x18 := by decide
theorem test_decode_wrUnmapped80 : decode 0x1FF42#20 = .wrUnmapped80 0xFF 0x42 := by decide
theorem test_decode_txpop : decode 0x20000#20 = .txpop ∧ decode 0x2FFFF#20 = .txpop := by decide
theorem test_decode_rxpush : decode 0x300FF#20 = .rxpush 0xFF ∧ decode 0x3AB61#20 = .rxpush 0x61 := by decide
theorem test_decode_teardown : decode 0x40000#20 = .teardown := by decide
theorem test_decode_init : decode 0x50000#20 = .init ∧ decode 0x51234#20 = .init := by decide
theorem test_decode_fstat : decode 0x60000#20 = .fstat := by decide
theorem test_decode_reservedDiagW : decode 0x70000#20 = .reservedDiagW ∧ decode 0x7FFFF#20 = .reservedDiagW := by decide
theorem test_decode_brd : decode 0x80000#20 = .brd := by decide
theorem test_decode_bwr : decode 0x90042#20 = .bwr 0x42 := by decide
theorem test_decode_reservedPort5 : decode 0xA0000#20 = .reservedPort5 ∧ decode 0xB1234#20 = .reservedPort5 := by decide
theorem test_decode_reservedPort67 :
    decode 0xC0000#20 = .reservedPort67 ∧ decode 0xDFFFF#20 = .reservedPort67 ∧
    decode 0xE0000#20 = .reservedPort67 ∧ decode 0xFFFFF#20 = .reservedPort67 := by decide

theorem test_table_word : decodeTableWord 24 0x10041 = some (.wrThr 0x41) ∧ decodeTableWord 24 0x100000 = none := by decide
theorem test_decode_bytes :
    decodeBytes [0x41, 0x00, 0x01, 0x77] = .ok (.wrThr 0x41, [0x77]) ∧ decodeBytes [0x41, 0x00] = .error .truncated ∧
    decodeBytes [0x41, 0x00, 0x11] = .error .notTwentyBits := ⟨rfl, rfl, rfl⟩
theorem test_encode_zeroes_ignored_fields : encode .rdLsr = 0x00500#20 ∧ encode (.rxpush 0x61) = 0x30061#20 ∧ encode .init = 0x50000#20 := by decide

/-! Register reads: the rows of V-RD, whose start state is `vrd`; the state change is the one the row names. -/

theorem test_rdRbr_takes_the_oldest :
    stateOf (exec .rdRbr vrd) = some { vrd with rx := fifo 1 2 [(0, 0x31), (1, 0x32)], result := .byte 0x31 } := by decide
/-- V-FIFO-6: an empty receive FIFO returns 0xFF and stays as it is. -/
theorem test_rdRbr_empty : stateOf (exec .rdRbr (ready (fifo 7 7 []) (fifo 0 0 []))) =
    some { ready (fifo 7 7 []) (fifo 0 0 []) with result := .byte 0xFF } := by decide
theorem test_rdIer : stateOf (exec .rdIer vrd) = some { vrd with result := .byte 0x0F } := by decide
theorem test_rdIir_is_not_fcr : stateOf (exec .rdIir vrd) = some { vrd with result := .byte 0x01 } := by decide
theorem test_rdLcr : stateOf (exec .rdLcr vrd) = some { vrd with result := .byte 0x1B } := by decide
theorem test_rdMcr : stateOf (exec .rdMcr vrd) = some { vrd with result := .byte 0x03 } := by decide
theorem test_rdLsr : stateOf (exec .rdLsr vrd) = some { vrd with result := .byte 0x61 } := by decide
/-- V-LSR, the row with an empty receive and a full transmit FIFO. -/
theorem test_rdLsr_tx_full : (stateOf (exec .rdLsr (ready (fifo 0 0 []) (fifo 0 15 [])))).map (·.result) = some (.byte 0x60) := by decide
theorem test_rdMsr : stateOf (exec .rdMsr vrd) = some { vrd with result := .byte 0x00 } := by decide
theorem test_rdScr : stateOf (exec .rdScr vrd) = some { vrd with result := .byte 0xA5 } := by decide
theorem test_rdUnmapped08 : stateOf (exec (.rdUnmapped08 0x08) vrd) = some { vrd with result := .byte 0xFF } := by decide
theorem test_rdUnmapped10 : stateOf (exec (.rdUnmapped10 0x10) vrd) = some { vrd with result := .byte 0xFF } := by decide
theorem test_rdUnmapped20 : stateOf (exec (.rdUnmapped20 0x20) vrd) = some { vrd with result := .byte 0xFF } := by decide
theorem test_rdUnmapped40 : stateOf (exec (.rdUnmapped40 0x40) vrd) = some { vrd with result := .byte 0xFF } := by decide
theorem test_rdUnmapped80 : stateOf (exec (.rdUnmapped80 0xFF) vrd) = some { vrd with result := .byte 0xFF } := by decide

/-! Register writes: V-WR and V-REG. -/

/-- V-WR-0. -/
theorem test_wrThr : stateOf (exec (.wrThr 0x41) State.reset) =
    some { State.reset with tx := fifo 0 1 [(0, 0x41)], sink := [0x41] } := by decide
/-- V-WR-1: the sixteenth byte is dropped from the FIFO and still reaches the sink. -/
theorem test_wrThr_full : stateOf (exec (.wrThr 0x50) (ready (fifo 0 0 []) (fifo 0 15 []))) =
    some { ready (fifo 0 0 []) (fifo 0 15 []) with sink := [0x50] } := by decide
/-- V-REG-1 to V-REG-4, V-REG-7. -/
theorem test_wrIer : stateOf (exec (.wrIer 0xFF) busy) = some { busy with IER := 0xFF, result := .nothing } := by decide
theorem test_wrFcr : stateOf (exec (.wrFcr 0xC6) busy) = some { busy with FCR := 0xC6, result := .nothing } := by decide
theorem test_wrLcr : stateOf (exec (.wrLcr 0x83) busy) = some { busy with LCR := 0x83, result := .nothing } := by decide
theorem test_wrMcr : stateOf (exec (.wrMcr 0x1F) busy) = some { busy with MCR := 0x1F, result := .nothing } := by decide
theorem test_wrScr : stateOf (exec (.wrScr 0x5A) busy) = some { busy with SCR := 0x5A, result := .nothing } := by decide
/-- V-REG-5, V-REG-6, V-REG-8, V-REG-9. -/
theorem test_wrLsr : stateOf (exec (.wrLsr 0xFF) busy) = some { busy with result := .nothing } := by decide
theorem test_wrMsr : stateOf (exec (.wrMsr 0xAB) busy) = some { busy with result := .nothing } := by decide
theorem test_wrUnmapped08 : stateOf (exec (.wrUnmapped08 0x08 0x41) busy) = some { busy with result := .nothing } := by decide
theorem test_wrUnmapped10 : stateOf (exec (.wrUnmapped10 0x10 0x41) busy) = some { busy with result := .nothing } := by decide
theorem test_wrUnmapped20 : stateOf (exec (.wrUnmapped20 0x20 0x41) busy) = some { busy with result := .nothing } := by decide
theorem test_wrUnmapped40 : stateOf (exec (.wrUnmapped40 0x40 0x41) busy) = some { busy with result := .nothing } := by decide
theorem test_wrUnmapped80 : stateOf (exec (.wrUnmapped80 0xFF 0x42) busy) = some { busy with result := .nothing } := by decide

/-! Line side and byte port. -/

/-- V-FIFO-2, on the receive side: the tail wraps from 15 to 0. -/
theorem test_rxpush_wraps : stateOf (exec (.rxpush 0x7E) (ready (fifo 1 15 []) (fifo 2 2 []))) =
    some (ready (fifo 1 0 [(15, 0x7E)]) (fifo 2 2 [])) := by decide
/-- V-FIFO-5: full and wrapped, the byte is dropped. -/
theorem test_rxpush_full : stateOf (exec (.rxpush 0xEE) busy) = some { busy with result := .nothing } := by decide
/-- V-FIFO-3, on the transmit side: the head wraps from 15 to 0, the slot is not erased, the sink gains nothing. -/
theorem test_txpop_wraps : stateOf (exec .txpop busy) =
    some { busy with tx := fifo 0 2 [(15, 0x99), (0, 0x01), (1, 0x02)], result := .byte 0x99 } := by decide
/-- V-FIFO-7, V-PORT-8. -/
theorem test_txpop_empty : stateOf (exec .txpop (ready (fifo 3 9 []) (fifo 7 7 []))) =
    some { ready (fifo 3 9 []) (fifo 7 7 []) with result := .byte 0x00 } := by decide
/-- P7: a received 0xFF is taken, and DR then reads 0. -/
theorem test_brd : stateOf (exec .brd (ready (fifo 0 1 [(0, 0xFF)]) (fifo 0 0 []))) =
    some { ready (fifo 1 1 [(0, 0xFF)]) (fifo 0 0 []) with result := .byte 0xFF } := by decide
/-- V-PORT-9. -/
theorem test_brd_empty : stateOf (exec .brd State.reset) = some { State.reset with result := .byte 0xFF } := by decide
/-- V-PORT-4: the sink gains nothing. -/
theorem test_bwr : stateOf (exec (.bwr 0x42) State.reset) = some { State.reset with tx := fifo 0 1 [(0, 0x42)] } := by decide
/-- V-PORT-7: dropped. -/
theorem test_bwr_full : stateOf (exec (.bwr 0xEE) (ready (fifo 0 0 []) (fifo 0 15 []))) =
    some (ready (fifo 0 0 []) (fifo 0 15 [])) := by decide

/-! Lifecycle and diagnostics. -/

/-- V-LIFE-2 and V-LIFE-4: a second INIT is a reset, the preload is back, the sink keeps its byte. -/
theorem test_init_preload : stateOf (exec .init { busy with preload := [0x61, 0x62] }) =
    some { State.reset with rx := fifo 0 2 [(0, 0x61), (1, 0x62)], preload := [0x61, 0x62], sink := [0x58] } := by decide
/-- V-LIFE-5: what TEARDOWN does fix. -/
theorem test_teardown :
    (stateOf (exec .teardown busy)).map (fun t => (t.life, t.rx, t.tx, t.sink, t.freeDraws)) =
      some (.uninitialized, Fifo.cleared, Fifo.cleared, [0x58], 7) := by decide
/-- V-FIFO, the rows (5, 4) and (15, 2). -/
theorem test_fstat : stateOf (exec .fstat busy) = some { busy with result := .counts 15 3 } := by decide
/-- V-LIFE-6, V-LIFE-7. -/
theorem test_uninitialized_refuses :
    refusalOf (exec .fstat (State.powerOn busy)) = some .uninitialized ∧
    refusalOf (exec (.wrScr 0x5A) (State.powerOn busy)) = some .uninitialized := by decide
/-- V-ENC, the reserved regions. -/
theorem test_reserved_refused :
    refusalOf (exec .reservedDiagW busy) = some .reservedWord ∧ refusalOf (exec .reservedPort5 busy) = some .reservedWord ∧
    refusalOf (exec .reservedPort67 busy) = some .reservedWord := by decide

/-! The step. -/

/-- The word runs first, and what was invoked before it stays in line. -/
theorem test_step_fetch_word :
    stateOf (step ({ busy with requests := [.memRead 0x00 1] }.withFetchWord 24 0x1075A)) =
      some { busy with SCR := 0x5A, result := .nothing, requests := [.memRead 0x00 1] } := by decide
/-- R8: `MemRead(off, 1)` is `RD off` and `MemWrite(off, 1, v)` is `WR off, v`; R43: two bytes are refused. -/
theorem test_step_transfers :
    stateOf (step { vrd with requests := [.memRead 0x00 1] }) = stateOf (exec .rdRbr vrd) ∧
    stateOf (step { vrd with requests := [.memWrite 0x07 [0x5A]] }) = stateOf (exec (.wrScr 0x5A) vrd) ∧
    refusalOf (step { vrd with requests := [.memRead 0x00 2] }) = some .notOneByte := by decide
/-- R70: a name in the wrong direction means the offset all the same. -/
theorem test_names : RegName.RBR.offset = RegName.THR.offset ∧ RegName.FCR.offset = 0x02 ∧ puts [0x41] = [.command 0x10041] ∧
    pushs [0x61] = [.command 0x30061] := by decide

/-! Witnesses: states and operands that meet the hypotheses of each statement, a boundary value for each clause. -/

/-- Receive FIFO empty; not empty with one byte, wrapped; and both Ready. -/
theorem witness_receive_cursors :
    State.reset.life = .ready ∧ State.reset.rx.head = State.reset.rx.tail ∧
    (ready (fifo 15 0 []) (fifo 0 0 [])).life = .ready ∧ (ready (fifo 15 0 []) (fifo 0 0 [])).rx.head ≠ (ready (fifo 15 0 []) (fifo 0 0 [])).rx.tail := by decide
theorem witness_RdRbrDequeuesReceiveFifo : (0x000FF : CommandWord) &&& 0xFFF00 = 0x00000 ∧
    State.reset.life = .ready ∧ State.reset.rx.head = State.reset.rx.tail ∧ busy.life = .ready ∧ busy.rx.head ≠ busy.rx.tail := by decide
theorem witness_RdStoredRegisterReturnsItUnmodified :
    (0x001FF : CommandWord) &&& 0xFFF00 = 0x00100 ∧ (0x002FF : CommandWord) &&& 0xFFF00 = 0x00200 ∧
    (0x003FF : CommandWord) &&& 0xFFF00 = 0x00300 ∧ (0x004FF : CommandWord) &&& 0xFFF00 = 0x00400 ∧
    (0x006FF : CommandWord) &&& 0xFFF00 = 0x00600 ∧ (0x007FF : CommandWord) &&& 0xFFF00 = 0x00700 ∧ busy.life = .ready ∧ busy.Inv :=
  ⟨by decide, by decide, by decide, by decide, by decide, by decide, rfl, fun _ => ⟨rfl, rfl⟩⟩
theorem witness_RdLsrComputesFromReceiveCursors : (0x005A7 : CommandWord) &&& 0xFFF00 = 0x00500 ∧
    (0x105FF : CommandWord) &&& 0xFFF00 = 0x10500 ∧ busy.life = .ready := by decide
theorem witness_RdUnmappedReturnsFF :
    (0x00F00 : CommandWord) &&& 0xFF800 = 0x00800 ∧ (0x01F00 : CommandWord) &&& 0xFF000 = 0x01000 ∧
    (0x03F00 : CommandWord) &&& 0xFE000 = 0x02000 ∧ (0x07F00 : CommandWord) &&& 0xFC000 = 0x04000 ∧
    (0x0FF00 : CommandWord) &&& 0xF8000 = 0x08000 ∧ busy.life = .ready := by decide
/-- A Ready state, for the statements whose only hypothesis it is: both dispatches, read after write, the read-only
offsets, FSTAT, polling, and completion with any operation but the reserved ones. -/
theorem witness_ready : busy.life = .ready ∧ State.reset.life = .ready ∧ Instr.init.isReserved = false ∧ Instr.teardown.isReserved = false ∧
    Instr.rdRbr.isReserved = false := by decide
theorem witness_WrThrEnqueuesAndAlwaysReachesTheSink : (0x10041 : CommandWord) &&& 0xFFF00 = 0x10000 ∧
    busy.life = .ready ∧ busy.tx.tail + 1 ≠ busy.tx.head ∧
    (ready (fifo 0 0 []) (fifo 0 15 [])).life = .ready ∧ (fifo 0 15 []).tail + 1 = (fifo 0 15 []).head := by decide
theorem witness_WrStoredRegisterReplacesItAlone :
    (0x101FF : CommandWord) &&& 0xFFF00 = 0x10100 ∧ (0x102C7 : CommandWord) &&& 0xFFF00 = 0x10200 ∧
    (0x10383 : CommandWord) &&& 0xFFF00 = 0x10300 ∧ (0x1041F : CommandWord) &&& 0xFFF00 = 0x10400 ∧
    (0x1075A : CommandWord) &&& 0xFFF00 = 0x10700 ∧ busy.life = .ready := by decide
theorem witness_WrLsrMsrUnmappedAreDiscarded :
    (0x105FF : CommandWord) &&& 0xFFF00 = 0x10500 ∧ (0x106AB : CommandWord) &&& 0xFFF00 = 0x10600 ∧
    (0x10841 : CommandWord) &&& 0xFF800 = 0x10800 ∧ (0x11F00 : CommandWord) &&& 0xFF000 = 0x11000 ∧
    (0x13F00 : CommandWord) &&& 0xFE000 = 0x12000 ∧ (0x17F00 : CommandWord) &&& 0xFC000 = 0x14000 ∧
    (0x1FF42 : CommandWord) &&& 0xF8000 = 0x18000 ∧ busy.life = .ready := by decide
theorem witness_QuietReadsAndRegisterWritesAreIdempotent : Instr.rdLsr.isLifecycle = false ∧ Instr.rdLsr ∉ [.rdRbr, .brd, .txpop] ∧
    (∀ v, Instr.rdLsr ≠ .wrThr v ∧ Instr.rdLsr ≠ .bwr v ∧ Instr.rdLsr ≠ .rxpush v) ∧
    exec .rdLsr busy = .next { busy with result := .byte 0x61 } := ⟨rfl, by decide, fun _ => ⟨nofun, nofun, nofun⟩, rfl⟩
theorem witness_RxpushEnqueuesIntoReceiveFifo : (0x3AB61 : CommandWord) &&& 0xF0000 = 0x30000 ∧
    busy.life = .ready ∧ busy.rx.tail + 1 = busy.rx.head ∧ State.reset.life = .ready ∧ State.reset.rx.tail + 1 ≠ State.reset.rx.head ∧
    (stateOf (exec (.rxpush 0) busy)).isSome = true := by decide
theorem witness_TxpopDequeuesTransmitFifo : (0x2FFFF : CommandWord) &&& 0xF0000 = 0x20000 ∧
    busy.life = .ready ∧ busy.tx.head ≠ busy.tx.tail ∧ State.reset.life = .ready ∧ State.reset.tx.head = State.reset.tx.tail := by decide
theorem witness_BrdDequeuesReceiveFifoAsRdRbr : (0x8FFFF : CommandWord) &&& 0xF0000 = 0x80000 ∧
    busy.life = .ready ∧ busy.rx.head ≠ busy.rx.tail ∧ State.reset.life = .ready ∧ State.reset.rx.head = State.reset.rx.tail := by decide
theorem witness_BwrEnqueuesWithoutTheSink : (0x9FF42 : CommandWord) &&& 0xF0000 = 0x90000 ∧
    busy.life = .ready ∧ busy.tx.tail + 1 ≠ busy.tx.head ∧
    (ready (fifo 0 0 []) (fifo 1 0 [])).life = .ready ∧ (fifo 1 0 []).tail + 1 = (fifo 1 0 []).head := by decide
theorem witness_lifecycle_words : (0x51234 : CommandWord) &&& 0xF0000 = 0x50000 ∧ (0x4FFFF : CommandWord) &&& 0xF0000 = 0x40000 ∧
    (0x6FFFF : CommandWord) &&& 0xF0000 = 0x60000 := by decide
/-- FSTAT's clauses about the counts: each operation they name completes. -/
theorem witness_FstatReturnsTheTwoCounts : busy.life = .ready ∧ (stateOf (exec (.wrThr 0) busy)).isSome = true ∧
    (stateOf (exec (.bwr 0) busy)).isSome = true ∧ (stateOf (exec .txpop busy)).isSome = true ∧
    (stateOf (exec (.rxpush 0) busy)).isSome = true ∧ (stateOf (exec .rdRbr busy)).isSome = true ∧
    (stateOf (exec .brd busy)).isSome = true := by decide
theorem witness_UninitializedRefusesAllButInitAndTeardown : (State.powerOn busy).life = .uninitialized ∧
    Instr.fstat.isLifecycle = false ∧ Instr.fstat.isReserved = false ∧ Instr.init.isLifecycle = true ∧ Instr.teardown.isLifecycle = true := by decide
theorem witness_LifecycleMachineHasSixTransitions : Instr.rdRbr.isLifecycle = false ∧ Instr.rdRbr.isReserved = false ∧ busy.life = .ready ∧
    (State.powerOn busy).life = .uninitialized ∧ vrd.preload = State.reset.preload ∧ vrd.sink = State.reset.sink ∧
    vrd.requests = State.reset.requests ∧ vrd.freeDraws = State.reset.freeDraws ∧ vrd ≠ State.reset := by decide
theorem witness_ReservedWordsAreRefused : (0x7FFFF : CommandWord) &&& 0xF0000 = 0x70000 ∧ (0xBFFFF : CommandWord) &&& 0xE0000 = 0xA0000 ∧
    (0xDFFFF : CommandWord) &&& 0xC0000 = 0xC0000 ∧ (0xFFFFF : CommandWord) &&& 0xC0000 = 0xC0000 := by decide
theorem witness_PowerOnNeedsInit : Instr.rdLsr.isLifecycle = false ∧ busy.preload = [] := by decide
theorem witness_FifoReturnsBytesInOrder : (fifo 14 3 []).occupiedCount < 15 ∧ (fifo 0 14 []).occupiedCount < 15 ∧ (fifo 15 0 []).head ≠ (fifo 15 0 []).tail ∧
    (fifo 14 3 []).occupiedCount + (List.replicate 10 (0x41 : Byte)).length ≤ 15 := by decide
/-- V-FIFO's full rows (0, 15), (1, 0), (5, 4), (15, 14) and empty rows (0, 0), (8, 8). -/
theorem witness_OverflowDropsAndUnderflowReturnsTheSentinel : (fifo 0 15 []).occupiedCount = 15 ∧ (fifo 1 0 []).occupiedCount = 15 ∧
    (fifo 5 4 []).occupiedCount = 15 ∧ (fifo 15 14 []).occupiedCount = 15 ∧ (fifo 0 0 []).occupiedCount = 0 ∧ (fifo 8 8 []).occupiedCount = 0 ∧
    busy.life = .ready ∧ busy.rx.occupiedCount = 15 ∧ (ready (fifo 8 8 []) (fifo 0 15 [])).tx.occupiedCount = 15 ∧
    State.reset.life = .ready ∧ State.reset.rx.occupiedCount = 0 ∧ State.reset.tx.occupiedCount = 0 := by decide
theorem witness_ReceiveAndTransmitSidesCommute : busy.life = .ready ∧ (Instr.rxpush 1 = .rdRbr ∨ Instr.rxpush 1 = .brd ∨ ∃ v, Instr.rxpush 1 = .rxpush v) ∧
    (Instr.wrThr 2 = .txpop ∨ ∃ v, Instr.wrThr 2 = .wrThr v ∨ Instr.wrThr 2 = .bwr v) :=
  ⟨rfl, .inr (.inr ⟨1, rfl⟩), .inr ⟨2, .inl rfl⟩⟩
/-- Each cursor moves, from 15 to 0 in three cases: the clauses that name the operations are not empty. -/
theorem witness_CursorsMoveByOneAndOnlyByTheirOperations :
    (stateOf (exec .rdRbr (ready (fifo 15 0 []) (fifo 15 15 [])))).map (·.rx.head) = some 0 ∧
    (stateOf (exec (.rxpush 0) (ready (fifo 1 15 []) (fifo 15 15 [])))).map (·.rx.tail) = some 0 ∧
    (stateOf (exec .txpop (ready (fifo 0 0 []) (fifo 14 15 [])))).map (·.tx.head) = some 15 ∧
    (stateOf (exec (.bwr 0) (ready (fifo 0 0 []) (fifo 15 15 [])))).map (·.tx.tail) = some 0 := by decide
theorem witness_LsrBitsFollowTheirRules : State.reset.rx.head = State.reset.rx.tail ∧ busy.rx.head ≠ busy.rx.tail := by decide
theorem witness_PollingLsrTellsWhatRbrReturns : busy.life = .ready ∧ (lsr busy).getLsbD 0 = true ∧
    State.reset.life = .ready ∧ (lsr State.reset).getLsbD 0 = false := by decide
theorem witness_StepKeepsIirAndMsrConstant : State.Inv { busy with requests := [.command 0x102C7] } ∧
    step { busy with requests := [.command 0x102C7] } = .next { busy with FCR := 0xC7, result := .nothing } := ⟨fun _ => ⟨rfl, rfl⟩, rfl⟩
/-- Every whole-machine frame: an operation that completes, outside the lifecycle, and INIT. -/
theorem witness_frames : exec (.wrThr 0x41) State.reset = .next { State.reset with tx := fifo 0 1 [(0, 0x41)], sink := [0x41] } ∧
    Instr.isLifecycle (.wrThr 0x41) = false ∧ exec .init State.reset = .next State.reset ∧
    exec .rdLsr State.reset = .next { State.reset with result := .byte 0x60 } ∧ (∀ v, Instr.rdLsr ≠ .wrThr v) :=
  ⟨rfl, rfl, rfl, rfl, nofun⟩
theorem witness_WritableRegisterBitsHaveNoEffect : Instr.isLifecycle (.wrThr 0x41) = false ∧ Instr.accessesWritableRegister (.wrThr 0x41) = false ∧
    exec (.wrThr 0x41) State.reset = .next { State.reset with tx := fifo 0 1 [(0, 0x41)], sink := [0x41] } := ⟨rfl, rfl, rfl⟩
/-- Two different states with the same view: other cursors, another stale slot, another FCR. -/
theorem witness_SameView : SameView (ready (fifo 0 1 [(0, 0x41)]) (fifo 0 0 []))
      { ready (fifo 15 0 [(15, 0x41), (3, 0x77)]) (fifo 8 8 []) with FCR := 0xC7 } ∧
    ready (fifo 0 1 [(0, 0x41)]) (fifo 0 0 []) ≠ { ready (fifo 15 0 [(15, 0x41), (3, 0x77)]) (fifo 8 8 []) with FCR := 0xC7 } :=
  ⟨⟨rfl, rfl, rfl, rfl, rfl, fun _ => ⟨by decide, by decide, rfl, rfl, rfl, rfl, rfl, rfl⟩⟩, by decide⟩
theorem witness_ReadyRunsAreNeverRefused : busy.life = .ready ∧
    ∀ r ∈ ([.command 0x10041, .memRead 0x05 1] : List Request), ∃ c, r.commandWord = some c ∧ (decode c).isReserved = false ∧ decode c ≠ .teardown := by
  refine ⟨rfl, fun r hr => ?_⟩
  rcases List.mem_cons.1 hr with rfl | hr
  · exact ⟨0x10041, by decide, by decide, by decide⟩
  · rcases List.mem_cons.1 hr with rfl | hr
    · exact ⟨0x00500, by decide, by decide, by decide⟩
    · cases hr
theorem witness_PutsFillsTheTransmitFifoToFifteen :
    State.life { busy with requests := puts (List.replicate 17 0x41) ++ [.memRead 0x05 1] } = .ready ∧
    State.requests { busy with requests := puts (List.replicate 17 0x41) ++ [.memRead 0x05 1] } = puts (List.replicate 17 0x41) ++ [.memRead 0x05 1] := ⟨rfl, rfl⟩
theorem witness_PushedBytesAreReadBackInOrder : State.reset.life = .ready ∧ State.reset.rx.pending = [] ∧ (List.replicate 15 (0x41 : Byte)).length ≤ 15 ∧
    14 < (List.replicate 15 (0x41 : Byte)).length := by decide
theorem witness_StepRunsTheRequestedOperation : State.requests { busy with requests := [.command 0x10041] } = .command 0x10041 :: [] ∧
    State.requests { busy with requests := [.memRead 0xFF 1] } = .memRead 0xFF 1 :: [] ∧
    State.requests { busy with requests := [.memWrite 0x00 [0x41]] } = .memWrite 0x00 [0x41] :: [] ∧ State.reset.requests = [] := by decide
theorem witness_WideTransfersAreRefused : (2 : Nat) ≠ 1 ∧ (0 : Nat) ≠ 1 ∧ ([0x41, 0x42] : List Byte).length ≠ 1 ∧ ([] : List Byte).length ≠ 1 ∧
    State.requests { busy with requests := [.memRead 0x00 2] } = .memRead 0x00 2 :: [] := by decide
theorem witness_DecodeInvertsEncode : (Instr.rdUnmapped08 0x08).wellFormed = true ∧ (Instr.rdUnmapped08 0x0F).wellFormed = true ∧
    (Instr.wrUnmapped80 0xFF 0xFF).wellFormed = true ∧ Instr.rdRbr.wellFormed = true := by decide
theorem witness_IgnoredFieldsAreMaskedOutAndEncodedAsZero : (4 : BitVec 3) ≠ 0 ∧ portField (encode (.bwr 0xFF)) ≠ 0 ∧ portField (encode .init) ≠ 0 := by decide

end Sys2Proof.Tests
end

section
/-!
The FIFO as the list of its pending bytes (10_state.md R17): what each primitive does to that list and reads from it.
-/
namespace Sys2Proof.Machine

theorem Fifo.occupiedCount_le (F : Fifo) : F.occupiedCount ≤ 15 := by
  rw [F.occupiedCount_eq]
  omega

theorem Fifo.isEmpty_iff_count (F : Fifo) : F.isEmpty = true ↔ F.occupiedCount = 0 := by
  have hh := cursor_lt F.head
  have ht := cursor_lt F.tail
  rw [F.isEmpty_iff, F.occupiedCount_eq, Fin.ext_iff]
  omega

theorem Fifo.isFull_iff_count (F : Fifo) : F.isFull = true ↔ F.occupiedCount = 15 := by
  have hh := cursor_lt F.head
  have ht := cursor_lt F.tail
  rw [F.isFull_iff, F.occupiedCount_eq, Fin.ext_iff, advance_val]
  omega

theorem Fifo.count_lt_of_not_full {F : Fifo} (h : F.isFull = false) : F.occupiedCount < 15 :=
  lt_of_le_of_ne F.occupiedCount_le fun hc => by simp [F.isFull_iff_count.2 hc] at h

theorem Fifo.count_pos_of_not_empty {F : Fifo} (h : F.isEmpty = false) : 0 < F.occupiedCount :=
  Nat.pos_of_ne_zero fun hc => by simp [F.isEmpty_iff_count.2 hc] at h

theorem Fifo.slot_congr (F : Fifo) {i j : Nat} (h : i % 16 = j % 16) : F.slot i = F.slot j := by
  simp only [Fifo.slot, Config.capacity, h]

/-- The byte stored at the tail of a FIFO that is not full comes last in the pending list: the slot at the tail is the
one that follows the pending slots, and is none of them. -/
theorem Fifo.pending_store (F : Fifo) (b : Byte) (h : F.isFull = false) :
    Fifo.pending { F with buf := F.buf.set F.tail.val b, tail := advance F.tail } = F.pending ++ [b] := by
  have hh := cursor_lt F.head
  have ht := cursor_lt F.tail
  have hroom := Fifo.count_lt_of_not_full h
  have hcount : Fifo.occupiedCount { F with buf := F.buf.set F.tail.val b, tail := advance F.tail } =
      F.occupiedCount + 1 := by
    simp only [Fifo.occupiedCount_eq, advance_val] at hroom ⊢
    omega
  have hlast : (F.head.val + F.occupiedCount) % 16 = F.tail.val := by
    rw [F.occupiedCount_eq]
    omega
  have hrest : ∀ i ∈ List.range F.occupiedCount, (F.head.val + i) % 16 ≠ F.tail.val := by
    intro i hi
    rw [List.mem_range, F.occupiedCount_eq] at hi
    omega
  unfold Fifo.pending
  rw [hcount, List.range_succ, List.map_append, List.map_singleton]
  congr 1
  · exact List.map_congr_left fun i hi => by rw [Fifo.slot_set, if_neg (hrest i hi)]
  · rw [Fifo.slot_set, if_pos hlast]

/-- A FIFO that is not empty has the byte at its head as the first pending one; advancing the head takes it away. -/
theorem Fifo.pending_advance (F : Fifo) (h : F.isEmpty = false) :
    F.pending = F.buf[F.head.val] :: Fifo.pending { F with head := advance F.head } := by
  have hh := cursor_lt F.head
  have ht := cursor_lt F.tail
  have hsome := Fifo.count_pos_of_not_empty h
  have hcount : F.occupiedCount = Fifo.occupiedCount { F with head := advance F.head } + 1 := by
    simp only [Fifo.occupiedCount_eq, advance_val] at hsome ⊢
    omega
  unfold Fifo.pending
  rw [hcount, List.range_succ_eq_map, List.map_cons, List.map_map]
  congr 1
  · simp only [Fifo.slot, Nat.add_zero, Nat.mod_eq_of_lt F.head.isLt]
  · refine List.map_congr_left fun i _ => ?_
    exact F.slot_congr (by simp only [advance_val]; omega)

/-- An enqueue appends, and what exceeds 15 bytes is dropped. -/
theorem Fifo.pending_enqueue (F : Fifo) (b : Byte) : (F.enqueue b).pending = (F.pending ++ [b]).take 15 := by
  have hlen := F.length_pending
  rcases F.enqueue_cases b with ⟨hfull, h⟩ | ⟨hfull, h⟩
  · rw [h, List.take_left' (hlen.trans (F.isFull_iff_count.1 hfull))]
  · have hroom := Fifo.count_lt_of_not_full hfull
    rw [h, F.pending_store b hfull, List.take_of_length_le]
    rw [List.length_append, List.length_singleton]
    omega

theorem Fifo.isEmpty_eq_pending (F : Fifo) : F.isEmpty = F.pending.isEmpty := by
  rw [Bool.eq_iff_iff, F.isEmpty_iff_count, List.isEmpty_iff_length_eq_zero, F.length_pending]

/-- A dequeue takes the first pending byte away. -/
theorem Fifo.pending_dequeue (F : Fifo) (d : Byte) : (F.dequeue d).2.pending = F.pending.tail := by
  rcases F.dequeue_cases d with ⟨hempty, h⟩ | ⟨hempty, h⟩
  · rw [F.isEmpty_eq_pending, List.isEmpty_iff] at hempty
    rw [h, hempty, List.tail_nil]
  · rw [h, F.pending_advance hempty, List.tail_cons]

/-- A dequeue returns the first pending byte, or the sentinel when there is none. -/
theorem Fifo.dequeue_fst (F : Fifo) (d : Byte) : (F.dequeue d).1 = F.pending.headD d := by
  rcases F.dequeue_cases d with ⟨hempty, h⟩ | ⟨hempty, h⟩
  · rw [F.isEmpty_eq_pending, List.isEmpty_iff] at hempty
    rw [h, hempty, List.headD_nil]
  · rw [h, F.pending_advance hempty, List.headD_cons]

theorem Fifo.enqueue_tail_moves (F : Fifo) (b : Byte) : MovesByAtMostOne F.tail (F.enqueue b).tail := by
  rcases F.enqueue_cases b with ⟨-, h⟩ | ⟨-, h⟩
  · exact .inl (by rw [h])
  · exact .inr (by rw [h, advance_eq_add_one])

theorem Fifo.dequeue_head_moves (F : Fifo) (d : Byte) : MovesByAtMostOne F.head (F.dequeue d).2.head := by
  rcases F.dequeue_cases d with ⟨-, h⟩ | ⟨-, h⟩
  · exact .inl (by rw [h])
  · exact .inr (by rw [h, advance_eq_add_one])

end Sys2Proof.Machine
end

section
/-!
What an operation does to a Ready block, in ten kinds. Every operation outside the lifecycle and the reserved rows has
one kind (`exec_of_effectOf`), so a fact about all of them is a fact about ten effects.
-/
namespace Sys2Proof.Machine

/-- The kinds of effect an operation has on a Ready block. -/
inductive Effect
  /-- dequeue the receive FIFO -/
  | popRx
  /-- dequeue the transmit FIFO -/
  | popTx
  /-- enqueue into the receive FIFO -/
  | pushRx (v : Byte)
  /-- enqueue into the transmit FIFO, past the sink -/
  | pushTx (v : Byte)
  /-- enqueue into the transmit FIFO and hand the byte to the sink -/
  | transmit (v : Byte)
  /-- replace a stored register -/
  | store (r : Reg) (v : Byte)
  /-- return a stored register -/
  | load (r : Reg)
  /-- return LSR -/
  | status
  /-- return the two occupancy counts -/
  | counts
  /-- return a result that no state decides -/
  | answer (r : Result)

/-- The state an effect leaves. -/
def Effect.apply : Effect → State → State
  | .popRx, s => s.popRx
  | .popTx, s => s.popTx
  | .pushRx v, s => (s.pushRx v).setResult .nothing
  | .pushTx v, s => (s.pushTx v).setResult .nothing
  | .transmit v, s => ((s.pushTx v).sinkEmit v).setResult .nothing
  | .store r v, s => (s.writeReg r v).setResult .nothing
  | .load r, s => s.setResult (.byte (s.readReg r))
  | .status, s => s.setResult (.byte (lsr s))
  | .counts, s => s.setResult (.counts s.rx.occupiedCount s.tx.occupiedCount)
  | .answer r, s => s.setResult r

/-- The effect of an operation; none for `INIT`, `TEARDOWN` and the reserved rows, which do not ask whether the block
is Ready. -/
def effectOf : Instr → Option Effect
  | .rdRbr | .brd => some .popRx
  | .txpop => some .popTx
  | .rxpush v => some (.pushRx v)
  | .bwr v => some (.pushTx v)
  | .wrThr v => some (.transmit v)
  | .wrIer v => some (.store .IER v)
  | .wrFcr v => some (.store .FCR v)
  | .wrLcr v => some (.store .LCR v)
  | .wrMcr v => some (.store .MCR v)
  | .wrScr v => some (.store .SCR v)
  | .rdIer => some (.load .IER)
  | .rdIir => some (.load .IIR)
  | .rdLcr => some (.load .LCR)
  | .rdMcr => some (.load .MCR)
  | .rdMsr => some (.load .MSR)
  | .rdScr => some (.load .SCR)
  | .rdLsr => some .status
  | .fstat => some .counts
  | .rdUnmapped08 _ | .rdUnmapped10 _ | .rdUnmapped20 _ | .rdUnmapped40 _ | .rdUnmapped80 _ =>
    some (.answer (.byte Config.unmappedReadValue))
  | .wrLsr _ | .wrMsr _ => some (.answer .nothing)
  | .wrUnmapped08 _ _ | .wrUnmapped10 _ _ | .wrUnmapped20 _ _ | .wrUnmapped40 _ _ | .wrUnmapped80 _ _ =>
    some (.answer .nothing)
  | .init | .teardown | .reservedDiagW | .reservedPort5 | .reservedPort67 => none

/-- An operation with an effect has it when the block is Ready, and is refused otherwise. -/
theorem exec_of_effectOf {i : Instr} {e : Effect} (h : effectOf i = some e) (s : State) :
    exec i s = whenReady s (e.apply s) := by
  cases i <;> cases h <;> rfl

theorem exec_of_reserved {i : Instr} (h : i.isReserved = true) (s : State) : exec i s = .refused .reservedWord := by
  cases i <;> cases h <;> rfl

/-- Every operation is of the lifecycle, names no operation, or has an effect. -/
theorem instr_cases (i : Instr) :
    i = .init ∨ i = .teardown ∨ i.isReserved = true ∨ ∃ e, effectOf i = some e := by
  cases i <;> simp [effectOf, Instr.isReserved]

/-- What an operation outside the lifecycle has done when it completes. -/
theorem exec_eq_next {i : Instr} {s t : State} (hi : i.isLifecycle = false) (h : exec i s = .next t) :
    ∃ e, effectOf i = some e ∧ s.life = .ready ∧ t = e.apply s := by
  rcases instr_cases i with rfl | rfl | hr | ⟨e, he⟩
  · cases hi
  · cases hi
  · rw [exec_of_reserved hr] at h
    cases h
  · rw [exec_of_effectOf he, whenReady_eq_next] at h
    exact ⟨e, he, h.1, h.2.symm⟩

/-! Which operations have a given effect. -/

theorem effectOf_popRx {i : Instr} : effectOf i = some .popRx ↔ i = .rdRbr ∨ i = .brd := by
  cases i <;> simp [effectOf]

theorem effectOf_popTx {i : Instr} : effectOf i = some .popTx ↔ i = .txpop := by
  cases i <;> simp [effectOf]

theorem effectOf_pushRx {i : Instr} {v : Byte} : effectOf i = some (.pushRx v) ↔ i = .rxpush v := by
  cases i <;> simp [effectOf]

theorem effectOf_pushTx {i : Instr} {v : Byte} : effectOf i = some (.pushTx v) ↔ i = .bwr v := by
  cases i <;> simp [effectOf]

theorem effectOf_transmit {i : Instr} {v : Byte} : effectOf i = some (.transmit v) ↔ i = .wrThr v := by
  cases i <;> simp [effectOf]

/-- Only an access to a writable register stores, and none stores to IIR or MSR (10_state.md R21, R25). -/
theorem effectOf_store {i : Instr} {r : Reg} {v : Byte} (h : effectOf i = some (.store r v)) :
    i.accessesWritableRegister = true ∧ r ≠ .IIR ∧ r ≠ .MSR := by
  cases i <;> cases h <;> simp [Instr.accessesWritableRegister]

/-- No operation returns FCR (10_state.md R22), and outside the accesses to a writable register only IIR and MSR are
returned. -/
theorem effectOf_load {i : Instr} {r : Reg} (h : effectOf i = some (.load r)) :
    r ≠ .FCR ∧ (i.accessesWritableRegister = false → r = .IIR ∨ r = .MSR) := by
  cases i <;> cases h <;> simp [Instr.accessesWritableRegister]

/-! What an effect leaves in each component. -/

section
variable {e : Effect} (s : State)

theorem Effect.apply_IIR (h : ∀ v, e ≠ .store .IIR v) : (e.apply s).IIR = s.IIR := by
  cases e with
  | store r v => exact State.writeReg_IIR_of_ne s v fun hr => h v (by rw [hr])
  | _ => rfl

theorem Effect.apply_MSR (h : ∀ v, e ≠ .store .MSR v) : (e.apply s).MSR = s.MSR := by
  cases e with
  | store r v => exact State.writeReg_MSR_of_ne s v fun hr => h v (by rw [hr])
  | _ => rfl

theorem Effect.apply_sink (h : ∀ v, e ≠ .transmit v) : (e.apply s).sink = s.sink := by
  cases e with
  | transmit v => exact absurd rfl (h v)
  | store r v => exact State.writeReg_sink s r v
  | _ => rfl

theorem Effect.apply_rx (hpop : e ≠ .popRx) (hpush : ∀ v, e ≠ .pushRx v) : (e.apply s).rx = s.rx := by
  cases e with
  | popRx => exact absurd rfl hpop
  | pushRx v => exact absurd rfl (hpush v)
  | store r v => exact State.writeReg_rx s r v
  | _ => rfl

theorem Effect.apply_tx (hpop : e ≠ .popTx) (hpush : ∀ v, e ≠ .pushTx v ∧ e ≠ .transmit v) :
    (e.apply s).tx = s.tx := by
  cases e with
  | popTx => exact absurd rfl hpop
  | pushTx v => exact absurd rfl (hpush v).1
  | transmit v => exact absurd rfl (hpush v).2
  | store r v => exact State.writeReg_tx s r v
  | _ => rfl

end

end Sys2Proof.Machine
end

section
/-!
The statements about one operation or one step: the invariant, and what each operation leaves unchanged.
-/
namespace Sys2Proof.Machine

/-- The invariant survives every operation: INIT establishes it, TEARDOWN leaves the Ready state, and no effect stores
to IIR or MSR. -/
theorem exec_keeps_Inv {i : Instr} {s t : State} (hs : s.Inv) (h : exec i s = .next t) : t.Inv := by
  rcases instr_cases i with rfl | rfl | hr | ⟨e, he⟩
  · cases h
    exact fun _ => ⟨rfl, rfl⟩
  · cases h
    exact fun hl => nomatch hl
  · rw [exec_of_reserved hr] at h
    cases h
  · rw [exec_of_effectOf he, whenReady_eq_next] at h
    obtain ⟨hl, rfl⟩ := h
    have hIIR : ∀ v, e ≠ .store .IIR v := by
      rintro v rfl
      obtain ⟨-, hne, -⟩ := effectOf_store he
      exact hne rfl
    have hMSR : ∀ v, e ≠ .store .MSR v := by
      rintro v rfl
      obtain ⟨-, -, hne⟩ := effectOf_store he
      exact hne rfl
    intro _
    rw [Effect.apply_IIR s hIIR, Effect.apply_MSR s hMSR]
    exact hs hl

/-- Settles O32: a step is idle, refused, or one operation, and every operation keeps the invariant. -/
theorem stepKeepsIirAndMsrConstant : Obligations.StepKeepsIirAndMsrConstant := by
  intro s t hs h
  rcases step_cases s with ⟨-, hstep⟩ | ⟨r, rest, -, -, hstep⟩ | ⟨r, rest, c, -, -, hstep⟩
  · rw [hstep] at h
    cases h
    exact hs
  · rw [hstep] at h
    cases h
  · rw [hstep] at h
    exact exec_keeps_Inv (s := { s with requests := rest }) hs h

/-- Settles O33, by evaluation of the reset state. -/
theorem resetSatisfiesTheInvariant : Obligations.ResetSatisfiesTheInvariant :=
  ⟨fun _ => ⟨rfl, rfl⟩, rfl⟩

/-- Settles O35: an effect that is no dequeue and no enqueue of a FIFO leaves that FIFO as it was. -/
theorem pendingBytesChangeOnlyByTheirOperations : Obligations.PendingBytesChangeOnlyByTheirOperations := by
  intro i s t h hi
  obtain ⟨e, he, -, rfl⟩ := exec_eq_next hi h
  constructor
  · intro hrd hbrd hpush
    have hrx : (e.apply s).rx = s.rx := Effect.apply_rx s
      (fun hv => (effectOf_popRx.1 (hv ▸ he)).elim hrd hbrd)
      (fun v hv => hpush v (effectOf_pushRx.1 (hv ▸ he)))
    exact ⟨hrx, congrArg Fifo.pending hrx⟩
  · intro hpop hpush
    have htx : (e.apply s).tx = s.tx := Effect.apply_tx s
      (fun hv => hpop (effectOf_popTx.1 (hv ▸ he)))
      (fun v => ⟨fun hv => (hpush v).2 (effectOf_pushTx.1 (hv ▸ he)),
        fun hv => (hpush v).1 (effectOf_transmit.1 (hv ▸ he))⟩)
    exact ⟨htx, congrArg Fifo.pending htx⟩

/-- An operation other than a write to THR hands nothing to the sink. -/
theorem exec_sink_of_ne_wrThr {i : Instr} {s t : State} (h : exec i s = .next t) (hi : ∀ v, i ≠ .wrThr v) :
    t.sink = s.sink := by
  rcases instr_cases i with rfl | rfl | hr | ⟨e, he⟩
  · cases h
    rfl
  · cases h
    rfl
  · rw [exec_of_reserved hr] at h
    cases h
  · rw [exec_of_effectOf he, whenReady_eq_next] at h
    obtain ⟨-, rfl⟩ := h
    exact Effect.apply_sink s fun v hv => hi v (effectOf_transmit.1 (hv ▸ he))

/-- Settles O36: of all effects only the one of a write to THR reaches the sink, with the byte written. -/
theorem sinkGrowsOnlyByThrWrites : Obligations.SinkGrowsOnlyByThrWrites := by
  intro i s t h
  refine ⟨?_, exec_sink_of_ne_wrThr h⟩
  rintro v rfl
  obtain ⟨-, rfl⟩ := returnNothing_eq_next.1 h
  rfl

/-! Cursors (40_fifo_engine.md R88). -/

section
variable {e : Effect} (s : State)

theorem Effect.apply_rx_head_of_ne (h : e ≠ .popRx) : (e.apply s).rx.head = s.rx.head := by
  by_cases hpush : ∃ v, e = .pushRx v
  · obtain ⟨v, rfl⟩ := hpush
    exact s.rx.enqueue_head v
  · rw [Effect.apply_rx s h fun v hv => hpush ⟨v, hv⟩]

theorem Effect.apply_rx_tail_of_ne (h : ∀ v, e ≠ .pushRx v) : (e.apply s).rx.tail = s.rx.tail := by
  by_cases hpop : e = .popRx
  · subst hpop
    exact s.rx.dequeue_tail _
  · rw [Effect.apply_rx s hpop h]

theorem Effect.apply_tx_head_of_ne (h : e ≠ .popTx) : (e.apply s).tx.head = s.tx.head := by
  by_cases hpush : ∃ v, e = .pushTx v ∨ e = .transmit v
  · obtain ⟨v, rfl | rfl⟩ := hpush
    · exact s.tx.enqueue_head v
    · exact s.tx.enqueue_head v
  · rw [Effect.apply_tx s h fun v => ⟨fun hv => hpush ⟨v, .inl hv⟩, fun hv => hpush ⟨v, .inr hv⟩⟩]

theorem Effect.apply_tx_tail_of_ne (h : ∀ v, e ≠ .pushTx v ∧ e ≠ .transmit v) :
    (e.apply s).tx.tail = s.tx.tail := by
  by_cases hpop : e = .popTx
  · subst hpop
    exact s.tx.dequeue_tail _
  · rw [Effect.apply_tx s hpop h]

variable (e)

theorem Effect.apply_rx_head_moves : MovesByAtMostOne s.rx.head (e.apply s).rx.head := by
  by_cases h : e = .popRx
  · subst h
    exact s.rx.dequeue_head_moves _
  · exact .inl (Effect.apply_rx_head_of_ne s h)

theorem Effect.apply_rx_tail_moves : MovesByAtMostOne s.rx.tail (e.apply s).rx.tail := by
  by_cases h : ∃ v, e = .pushRx v
  · obtain ⟨v, rfl⟩ := h
    exact s.rx.enqueue_tail_moves v
  · exact .inl (Effect.apply_rx_tail_of_ne s fun v hv => h ⟨v, hv⟩)

theorem Effect.apply_tx_head_moves : MovesByAtMostOne s.tx.head (e.apply s).tx.head := by
  by_cases h : e = .popTx
  · subst h
    exact s.tx.dequeue_head_moves _
  · exact .inl (Effect.apply_tx_head_of_ne s h)

theorem Effect.apply_tx_tail_moves : MovesByAtMostOne s.tx.tail (e.apply s).tx.tail := by
  by_cases h : ∃ v, e = .pushTx v ∨ e = .transmit v
  · obtain ⟨v, rfl | rfl⟩ := h
    · exact s.tx.enqueue_tail_moves v
    · exact s.tx.enqueue_tail_moves v
  · exact .inl (Effect.apply_tx_tail_of_ne s fun v => ⟨fun hv => h ⟨v, .inl hv⟩, fun hv => h ⟨v, .inr hv⟩⟩)

end

/-- Settles O29: a head moves only by its dequeue, a tail only by its enqueue, and either by one position. -/
theorem cursorsMoveByOneAndOnlyByTheirOperations : Obligations.CursorsMoveByOneAndOnlyByTheirOperations := by
  intro i s t hi h
  obtain ⟨e, he, -, rfl⟩ := exec_eq_next hi h
  refine ⟨e.apply_rx_head_moves s, e.apply_rx_tail_moves s, e.apply_tx_head_moves s, e.apply_tx_tail_moves s,
    fun hmove => ?_, fun hmove => ?_, fun hmove => ?_, fun hmove => ?_⟩
  · by_contra hi
    exact hmove (Effect.apply_rx_head_of_ne s fun hv => hi (effectOf_popRx.1 (hv ▸ he)))
  · by_contra hi
    exact hmove (Effect.apply_rx_tail_of_ne s fun v hv => hi ⟨v, effectOf_pushRx.1 (hv ▸ he)⟩)
  · by_contra hi
    exact hmove (Effect.apply_tx_head_of_ne s fun hv => hi (effectOf_popTx.1 (hv ▸ he)))
  · by_contra hi
    exact hmove (Effect.apply_tx_tail_of_ne s fun v =>
      ⟨fun hv => hi ⟨v, .inr (effectOf_pushTx.1 (hv ▸ he))⟩, fun hv => hi ⟨v, .inl (effectOf_transmit.1 (hv ▸ he))⟩⟩)

/-! The writable registers (10_state.md R19). -/

/-- An effect that neither stores a register nor returns a writable one commutes with any change of the writable
registers. -/
theorem Effect.apply_withWritableRegisters {e : Effect} (s : State) (ier fcr lcr mcr scr : Byte)
    (hstore : ∀ r v, e ≠ .store r v) (hload : ∀ r, e = .load r → r = .IIR ∨ r = .MSR) :
    e.apply (s.withWritableRegisters ier fcr lcr mcr scr) =
      (e.apply s).withWritableRegisters ier fcr lcr mcr scr := by
  cases e with
  | store r v => exact absurd rfl (hstore r v)
  | load r => rcases hload r rfl with rfl | rfl <;> rfl
  | _ => rfl

/-- Settles O38: an operation that is no access to a writable register stores none and returns none. -/
theorem writableRegisterBitsHaveNoEffect : Obligations.WritableRegisterBitsHaveNoEffect := by
  intro i s t ier fcr lcr mcr scr hi hacc h
  obtain ⟨e, he, hl, rfl⟩ := exec_eq_next hi h
  have hstore : ∀ r v, e ≠ .store r v := by
    rintro r v rfl
    obtain ⟨hacc', -⟩ := effectOf_store he
    rw [hacc] at hacc'
    cases hacc'
  have hload : ∀ r, e = .load r → r = .IIR ∨ r = .MSR := by
    rintro r rfl
    exact (effectOf_load he).2 hacc
  have hready : (s.withWritableRegisters ier fcr lcr mcr scr).life = .ready := hl
  rw [exec_of_effectOf he, whenReady_of_ready hready,
    Effect.apply_withWritableRegisters s ier fcr lcr mcr scr hstore hload]

end Sys2Proof.Machine
end

section
/-!
States with the same view answer alike: the relation of 10_state.md R17 is kept by every effect, so by every operation,
every step and every run.
-/
namespace Sys2Proof.Machine

/-- The registers of a view, through the accessor: every register but FCR. -/
theorem sameView_iff {s t : State} : SameView s t ↔
    s.life = t.life ∧ s.requests = t.requests ∧ s.sink = t.sink ∧ s.result = t.result ∧ s.preload = t.preload ∧
      (s.life = .ready → s.rx.pending = t.rx.pending ∧ s.tx.pending = t.tx.pending ∧
        ∀ r, r ≠ .FCR → s.readReg r = t.readReg r) := by
  have hregs : (s.IER = t.IER ∧ s.IIR = t.IIR ∧ s.LCR = t.LCR ∧ s.MCR = t.MCR ∧ s.MSR = t.MSR ∧ s.SCR = t.SCR) ↔
      ∀ r, r ≠ .FCR → s.readReg r = t.readReg r := by
    constructor
    · rintro ⟨hIER, hIIR, hLCR, hMCR, hMSR, hSCR⟩ r hr
      cases r with
      | IER => exact hIER
      | IIR => exact hIIR
      | FCR => exact absurd rfl hr
      | LCR => exact hLCR
      | MCR => exact hMCR
      | MSR => exact hMSR
      | SCR => exact hSCR
    · exact fun h => ⟨h .IER nofun, h .IIR nofun, h .LCR nofun, h .MCR nofun, h .MSR nofun, h .SCR nofun⟩
  rw [SameView, hregs]

/-- LSR depends on the receive FIFO through its pending bytes alone. -/
theorem lsr_eq_of_pending_eq {s t : State} (h : s.rx.pending = t.rx.pending) : lsr s = lsr t := by
  have hdr : dataReady s = dataReady t := by
    rw [dataReady, dataReady, Fifo.isEmpty_eq_pending, Fifo.isEmpty_eq_pending, h]
  rw [lsr, lsr, hdr]
  rfl

/-! Each update of State keeps the relation. -/

namespace SameView
variable {s t : State} (h : SameView s t)
include h

theorem setResult {p q : Result} (hpq : p = q) : SameView (s.setResult p) (t.setResult q) := by
  obtain ⟨hl, hreq, hsink, -, hpre, hready⟩ := h
  exact ⟨hl, hreq, hsink, hpq, hpre, hready⟩

theorem sinkEmit (v : Byte) : SameView (s.sinkEmit v) (t.sinkEmit v) := by
  obtain ⟨hl, hreq, hsink, hres, hpre, hready⟩ := h
  exact ⟨hl, hreq, congrArg (· ++ [v]) hsink, hres, hpre, hready⟩

theorem setRequests (rest : List Request) : SameView { s with requests := rest } { t with requests := rest } := by
  obtain ⟨hl, -, hsink, hres, hpre, hready⟩ := h
  exact ⟨hl, rfl, hsink, hres, hpre, hready⟩

theorem setRx {F G : Fifo} (hFG : F.pending = G.pending) : SameView (s.setRx F) (t.setRx G) := by
  obtain ⟨hl, hreq, hsink, hres, hpre, hready⟩ := h
  exact ⟨hl, hreq, hsink, hres, hpre, fun hs => ⟨hFG, (hready hs).2⟩⟩

theorem setTx {F G : Fifo} (hFG : F.pending = G.pending) : SameView (s.setTx F) (t.setTx G) := by
  obtain ⟨hl, hreq, hsink, hres, hpre, hready⟩ := h
  refine ⟨hl, hreq, hsink, hres, hpre, fun hs => ?_⟩
  obtain ⟨hrx, -, hregs⟩ := hready hs
  exact ⟨hrx, hFG, hregs⟩

theorem writeReg (r : Reg) (v : Byte) : SameView (s.writeReg r v) (t.writeReg r v) := by
  rw [sameView_iff] at h ⊢
  obtain ⟨hl, hreq, hsink, hres, hpre, hready⟩ := h
  simp only [State.writeReg_life, State.writeReg_requests, State.writeReg_sink, State.writeReg_result,
    State.writeReg_preload, State.writeReg_rx, State.writeReg_tx]
  refine ⟨hl, hreq, hsink, hres, hpre, fun hs => ?_⟩
  obtain ⟨hrx, htx, hregs⟩ := hready hs
  refine ⟨hrx, htx, fun q hq => ?_⟩
  by_cases hqr : q = r
  · rw [hqr, State.readReg_writeReg_self, State.readReg_writeReg_self]
  · rw [State.readReg_writeReg_of_ne s v hqr, State.readReg_writeReg_of_ne t v hqr, hregs q hq]

end SameView

/-- An effect on a Ready block keeps the relation: what it returns and what it leaves in a FIFO depend on the pending
bytes alone, and none returns FCR. -/
theorem SameView.apply {e : Effect} {s t : State} (h : SameView s t) (hs : s.life = .ready) (hload : e ≠ .load .FCR) :
    SameView (e.apply s) (e.apply t) := by
  obtain ⟨-, -, -, -, -, hready⟩ := sameView_iff.1 h
  obtain ⟨hrx, htx, hregs⟩ := hready hs
  cases e with
  | popRx => exact (h.setRx (by simp only [Fifo.pending_dequeue, hrx])).setResult (by simp only [Fifo.dequeue_fst, hrx])
  | popTx => exact (h.setTx (by simp only [Fifo.pending_dequeue, htx])).setResult (by simp only [Fifo.dequeue_fst, htx])
  | pushRx v => exact (h.setRx (by simp only [Fifo.pending_enqueue, hrx])).setResult rfl
  | pushTx v => exact (h.setTx (by simp only [Fifo.pending_enqueue, htx])).setResult rfl
  | transmit v => exact ((h.setTx (by simp only [Fifo.pending_enqueue, htx])).sinkEmit v).setResult rfl
  | store r v => exact (h.writeReg r v).setResult rfl
  | load r => exact h.setResult (congrArg Result.byte (hregs r fun hr => hload (by rw [hr])))
  | status => exact h.setResult (congrArg Result.byte (lsr_eq_of_pending_eq hrx))
  | counts => exact h.setResult (by simp only [← Fifo.length_pending, hrx, htx])
  | answer r => exact h.setResult rfl

/-- States with the same view answer every operation alike. INIT and TEARDOWN forget what the view leaves out. -/
theorem SameView.exec {s t : State} (h : SameView s t) (i : Instr) : SameOutcome (exec i s) (exec i t) := by
  have ⟨hl, hreq, hsink, _, hpre, _⟩ := h
  rcases instr_cases i with rfl | rfl | hr | ⟨e, he⟩
  · exact ⟨rfl, hreq, hsink, rfl, hpre,
      fun _ => ⟨congrArg (fun p => (Fifo.loaded p).pending) hpre, rfl, rfl, rfl, rfl, rfl, rfl, rfl⟩⟩
  · exact ⟨rfl, hreq, hsink, rfl, hpre, fun hready => nomatch hready⟩
  · rw [exec_of_reserved hr, exec_of_reserved hr]
    rfl
  · rw [exec_of_effectOf he, exec_of_effectOf he]
    cases hs : s.life with
    | ready =>
      rw [whenReady_of_ready hs, whenReady_of_ready (hl ▸ hs)]
      exact h.apply hs fun hv => (effectOf_load (hv ▸ he)).1 rfl
    | uninitialized =>
      rw [whenReady_of_uninitialized hs, whenReady_of_uninitialized (hl ▸ hs)]
      rfl

theorem SameView.step {s t : State} (h : SameView s t) : SameOutcome (step s) (step t) := by
  have ⟨_, hreq, _⟩ := h
  rcases step_cases s with ⟨hs, hstep⟩ | ⟨r, rest, hs, hc, hstep⟩ | ⟨r, rest, c, hs, hc, hstep⟩
  · rw [hstep, Machine.step, takeRequest_nil (hreq ▸ hs)]
    exact h
  · rw [hstep, Machine.step, takeRequest_cons (hreq ▸ hs)]
    simp [hc, refuseWidth, SameOutcome]
  · rw [hstep, Machine.step, takeRequest_cons (hreq ▸ hs)]
    simpa only [hc] using (h.setRequests rest).exec (decode c)

/-- Settles O39: the next request is the same in both states, and every operation keeps the relation. -/
theorem sameViewIsKeptByEveryStep : Obligations.SameViewIsKeptByEveryStep :=
  fun _ _ h => h.step

/-- Two outcomes that cannot be told apart are two next states with the same view or the same refusal. -/
theorem SameOutcome.cases {a b : Outcome} (h : SameOutcome a b) :
    (∃ s t, a = .next s ∧ b = .next t ∧ SameView s t) ∨ ∃ p, a = .refused p ∧ b = .refused p := by
  cases a with
  | next s =>
    cases b with
    | next t => exact .inl ⟨s, t, rfl, rfl, h⟩
    | fault f => exact nomatch f
    | refused q => exact h.elim
  | fault f => exact nomatch f
  | refused p =>
    cases b with
    | next t => exact h.elim
    | fault f => exact nomatch f
    | refused q =>
      cases h
      exact .inr ⟨p, rfl, rfl⟩

/-- Settles O40, by induction on the number of steps, over all pairs with the same view. -/
theorem sameViewCannotBeToldApartByAnyRun : Obligations.SameViewCannotBeToldApartByAnyRun := by
  intro k
  induction k with
  | zero => exact fun s t h => h
  | succ k ih =>
    intro s t h
    rcases h.step.cases with ⟨u, v, hs, ht, huv⟩ | ⟨p, hs, ht⟩
    · rw [run_succ_of_next hs, run_succ_of_next ht]
      exact ih u v huv
    · rw [run_succ_of_refused hs, run_succ_of_refused ht]
      rfl

end Sys2Proof.Machine
end

section
/-!
The register file (20_memory.md): what an operation leaves in the registers and beside them, a read after a write, and
operations done twice.
-/
namespace Sys2Proof.Machine

@[simp] theorem State.readReg_setResult (s : State) (p : Result) (r : Reg) :
    (s.setResult p).readReg r = s.readReg r := by
  cases r <;> rfl

theorem State.writeReg_setResult (s : State) (p : Result) (r : Reg) (v : Byte) :
    (s.setResult p).writeReg r v = (s.writeReg r v).setResult p := by
  cases r <;> rfl

/-! What no effect changes. -/

section
variable (e : Effect) (s : State)

@[simp] theorem Effect.apply_life : (e.apply s).life = s.life := by
  cases e with
  | store r v => exact State.writeReg_life s r v
  | _ => rfl

@[simp] theorem Effect.apply_freeDraws : (e.apply s).freeDraws = s.freeDraws := by
  cases e with
  | store r v => exact State.writeReg_freeDraws s r v
  | _ => rfl

@[simp] theorem Effect.apply_preload : (e.apply s).preload = s.preload := by
  cases e with
  | store r v => exact State.writeReg_preload s r v
  | _ => rfl

@[simp] theorem Effect.apply_requests : (e.apply s).requests = s.requests := by
  cases e with
  | store r v => exact State.writeReg_requests s r v
  | _ => rfl

end

/-! Which register an effect changes. -/

@[simp] theorem Effect.readReg_apply_store (s : State) (r : Reg) (v : Byte) :
    ((Effect.store r v).apply s).readReg r = v := by
  simp [Effect.apply]

/-- A register keeps its byte under every effect but a store to it: the others change no register at all. -/
theorem Effect.readReg_apply_of_ne {e : Effect} (s : State) {r : Reg} (h : ∀ v, e ≠ .store r v) :
    (e.apply s).readReg r = s.readReg r := by
  cases e with
  | store q v =>
    have hrq : r ≠ q := by
      rintro rfl
      exact h v rfl
    exact (State.readReg_setResult _ _ r).trans (State.readReg_writeReg_of_ne s v hrq)
  | _ => cases r <;> rfl

theorem effectOf_store_IER {i : Instr} {v : Byte} : effectOf i = some (.store .IER v) ↔ i = .wrIer v := by
  cases i <;> simp [effectOf]

theorem effectOf_store_FCR {i : Instr} {v : Byte} : effectOf i = some (.store .FCR v) ↔ i = .wrFcr v := by
  cases i <;> simp [effectOf]

theorem effectOf_store_LCR {i : Instr} {v : Byte} : effectOf i = some (.store .LCR v) ↔ i = .wrLcr v := by
  cases i <;> simp [effectOf]

theorem effectOf_store_MCR {i : Instr} {v : Byte} : effectOf i = some (.store .MCR v) ↔ i = .wrMcr v := by
  cases i <;> simp [effectOf]

theorem effectOf_store_SCR {i : Instr} {v : Byte} : effectOf i = some (.store .SCR v) ↔ i = .wrScr v := by
  cases i <;> simp [effectOf]

section
variable {i : Instr} {s t : State}

/-- A register some write stores to holds the byte written after that write, and its old byte after every other
operation. -/
theorem exec_readReg {r : Reg} {wr : Byte → Instr}
    (hwr : ∀ {v}, effectOf i = some (.store r v) ↔ i = wr v) (hi : i.isLifecycle = false)
    (h : exec i s = .next t) :
    (∀ v, i = wr v → t.readReg r = v) ∧ ((∀ v, i ≠ wr v) → t.readReg r = s.readReg r) := by
  obtain ⟨e, he, -, rfl⟩ := exec_eq_next hi h
  constructor
  · intro v hv
    obtain rfl : e = .store r v := Option.some.inj (he.symm.trans (hwr.2 hv))
    exact Effect.readReg_apply_store s r v
  · intro hne
    exact Effect.readReg_apply_of_ne s fun v hv => hne v (hwr.1 (hv ▸ he))

/-- A register no operation stores to keeps its byte (10_state.md R21, R25). -/
theorem exec_readReg_of_readOnly {r : Reg} (hr : r = .IIR ∨ r = .MSR) (hi : i.isLifecycle = false)
    (h : exec i s = .next t) : t.readReg r = s.readReg r := by
  obtain ⟨e, he, -, rfl⟩ := exec_eq_next hi h
  refine Effect.readReg_apply_of_ne s fun v hv => ?_
  obtain ⟨-, hIIR, hMSR⟩ := effectOf_store (hv ▸ he)
  exact hr.elim hIIR hMSR

/-- No operation, INIT and TEARDOWN among them, writes the parameter or the requests. -/
theorem exec_inputs (h : exec i s = .next t) : t.preload = s.preload ∧ t.requests = s.requests := by
  rcases instr_cases i with rfl | rfl | hr | ⟨e, he⟩
  · cases h
    exact ⟨rfl, rfl⟩
  · cases h
    exact ⟨rfl, rfl⟩
  · rw [exec_of_reserved hr] at h
    cases h
  · rw [exec_of_effectOf he, whenReady_eq_next] at h
    obtain ⟨-, rfl⟩ := h
    exact ⟨e.apply_preload s, e.apply_requests s⟩

/-- Outside INIT and TEARDOWN the lifecycle state stays, and no free value is drawn. -/
theorem exec_life_freeDraws (hi : i.isLifecycle = false) (h : exec i s = .next t) :
    t.life = s.life ∧ t.freeDraws = s.freeDraws := by
  obtain ⟨e, -, -, rfl⟩ := exec_eq_next hi h
  exact ⟨e.apply_life s, e.apply_freeDraws s⟩

end

/-- Settles O37: of the ten effects only a store changes a register, and it changes the register it names. -/
theorem registersChangeOnlyByTheirWrites : Obligations.RegistersChangeOnlyByTheirWrites := by
  intro i s t h
  refine ⟨fun hi => ?_, exec_inputs h⟩
  obtain ⟨hlife, hdraws⟩ := exec_life_freeDraws hi h
  obtain ⟨ierSet, ierKept⟩ := exec_readReg effectOf_store_IER hi h
  obtain ⟨fcrSet, fcrKept⟩ := exec_readReg effectOf_store_FCR hi h
  obtain ⟨lcrSet, lcrKept⟩ := exec_readReg effectOf_store_LCR hi h
  obtain ⟨mcrSet, mcrKept⟩ := exec_readReg effectOf_store_MCR hi h
  obtain ⟨scrSet, scrKept⟩ := exec_readReg effectOf_store_SCR hi h
  refine ⟨hlife, exec_readReg_of_readOnly (.inl rfl) hi h, exec_readReg_of_readOnly (.inr rfl) hi h,
    ?_, ?_, ?_, ?_, ?_, hdraws⟩
  · split
    · exact ierSet _ rfl
    · exact ierKept ‹_›
  · split
    · exact fcrSet _ rfl
    · exact fcrKept ‹_›
  · split
    · exact lcrSet _ rfl
    · exact lcrKept ‹_›
  · split
    · exact mcrSet _ rfl
    · exact mcrKept ‹_›
  · split
    · exact scrSet _ rfl
    · exact scrKept ‹_›

/-- An effect that moves no cursor, applied twice, leaves what it leaves once: what it stores or returns does not
depend on what it changed. -/
theorem Effect.apply_apply {e : Effect} (s : State) (hpop : e ≠ .popRx ∧ e ≠ .popTx)
    (hpush : ∀ v, e ≠ .pushRx v ∧ e ≠ .pushTx v ∧ e ≠ .transmit v) : e.apply (e.apply s) = e.apply s := by
  cases e with
  | popRx => exact absurd rfl hpop.1
  | popTx => exact absurd rfl hpop.2
  | pushRx v => exact absurd rfl (hpush v).1
  | pushTx v => exact absurd rfl (hpush v).2.1
  | transmit v => exact absurd rfl (hpush v).2.2
  | store r v =>
    simp only [Effect.apply, State.writeReg_setResult, State.writeReg_writeReg]
    rfl
  | load r =>
    simp only [Effect.apply, State.readReg_setResult]
    rfl
  | status | counts | answer r => rfl

/-- Settles O12: outside the dequeues and the enqueues an operation's effect is idempotent, and it leaves the block
Ready, so the second time it completes too. -/
theorem quietReadsAndRegisterWritesAreIdempotent : Obligations.QuietReadsAndRegisterWritesAreIdempotent := by
  intro i s t hi hpop hpush h
  obtain ⟨e, he, hready, rfl⟩ := exec_eq_next hi h
  have hpop' : e ≠ .popRx ∧ e ≠ .popTx := by
    refine ⟨fun hv => hpop ?_, fun hv => hpop ?_⟩
    · rcases effectOf_popRx.1 (hv ▸ he) with rfl | rfl <;> simp
    · obtain rfl : i = .txpop := effectOf_popTx.1 (hv ▸ he)
      simp
  have hpush' : ∀ v, e ≠ .pushRx v ∧ e ≠ .pushTx v ∧ e ≠ .transmit v := by
    intro v
    obtain ⟨hthr, hbwr, hrx⟩ := hpush v
    exact ⟨fun hv => hrx (effectOf_pushRx.1 (hv ▸ he)), fun hv => hbwr (effectOf_pushTx.1 (hv ▸ he)),
      fun hv => hthr (effectOf_transmit.1 (hv ▸ he))⟩
  rw [exec_of_effectOf he, whenReady_of_ready ((e.apply_life s).trans hready), Effect.apply_apply s hpop' hpush']

/-- A load of a register after a store to it returns the byte stored. -/
theorem exec_load_after_store {wr rd : Instr} {r : Reg} {v : Byte} {s : State} (hs : s.life = .ready)
    (hwr : effectOf wr = some (.store r v)) (hrd : effectOf rd = some (.load r)) :
    ∃ t, exec wr s = .next t ∧ exec rd t = .next { t with result := .byte v } := by
  refine ⟨(Effect.store r v).apply s, ?_, ?_⟩
  · rw [exec_of_effectOf hwr, whenReady_of_ready hs]
  · have hload (u : State) : (Effect.load r).apply u = u.setResult (.byte (u.readReg r)) := rfl
    rw [exec_of_effectOf hrd, whenReady_of_ready ((Effect.apply_life _ s).trans hs), hload,
      Effect.readReg_apply_store, State.setResult]

/-- Settles O10: each of the four registers has a write that stores to it and a read that loads it. -/
theorem readAfterWriteReturnsTheByteWritten : Obligations.ReadAfterWriteReturnsTheByteWritten :=
  fun _ _ hs => ⟨exec_load_after_store hs rfl rfl, exec_load_after_store hs rfl rfl,
    exec_load_after_store hs rfl rfl, exec_load_after_store hs rfl rfl⟩

end Sys2Proof.Machine
end

section
/-!
The fetch of a request (20_memory.md R43, R46): which requests have a command word, what a step does with it, and the
three-byte layout of a word.
-/
namespace Sys2Proof.Machine

/-- A bus read of any number of bytes but one has no command word. -/
theorem Request.commandWord_memRead_of_ne (off : Byte) {n : Nat} (h : n ≠ 1) :
    (Request.memRead off n).commandWord = none :=
  if_neg h

/-- A bus write of any number of bytes but one has no command word. -/
theorem Request.commandWord_memWrite_of_ne (off : Byte) {bytes : List Byte} (h : bytes.length ≠ 1) :
    (Request.memWrite off bytes).commandWord = none := by
  match bytes with
  | [] => rfl
  | [_] => exact absurd rfl h
  | _ :: _ :: _ => rfl

section
variable {s : State} {r : Request} {rest : List Request} (hq : s.requests = r :: rest)
include hq

theorem step_of_commandWord {c : CommandWord} (hc : r.commandWord = some c) :
    step s = exec (decode c) { s with requests := rest } := by
  simp [step, takeRequest_cons hq, hc]

theorem step_of_no_commandWord (hc : r.commandWord = none) : step s = .refused .notOneByte := by
  simp [step, takeRequest_cons hq, hc, refuseWidth]

end

/-- Settles O45: a transfer of another width has no command word, and a step refuses a request without one. -/
theorem wideTransfersAreRefused : Obligations.WideTransfersAreRefused := fun _ _ =>
  ⟨fun off _ hn hq => step_of_no_commandWord hq (Request.commandWord_memRead_of_ne off hn),
    fun off _ hn hq => step_of_no_commandWord hq (Request.commandWord_memWrite_of_ne off hn)⟩

/-- The word placed is the one the next step runs, with every request there before it still to come. -/
theorem step_withFetchWord (s : State) (c : CommandWord) : step (s.withFetchWord 24 c.toNat) = exec (decode c) s := by
  have hc : BitVec.ofNat 20 (c.toNat % 2 ^ 24) = c := by
    rw [Nat.mod_eq_of_lt (by omega), BitVec.ofNat_toNat, BitVec.setWidth_eq]
  rw [State.withFetchWord, hc]
  exact step_of_commandWord (s := pushCommand s c) (rest := s.requests) rfl rfl

/-- A command word is the three bytes of its layout, put together (log 9). -/
theorem commandWord_of_bytes (c : CommandWord) :
    (BitVec.ofNat 8 (c.toNat / 2 ^ 16)).extractLsb' 0 4 ++ BitVec.ofNat 8 (c.toNat / 2 ^ 8) ++ BitVec.ofNat 8 c.toNat =
      c := by
  have byteAt (k : Nat) : BitVec.ofNat 8 (c.toNat / 2 ^ k) = c.extractLsb' k 8 := by
    rw [← Nat.shiftRight_eq_div_pow, BitVec.extractLsb']
  rw [byteAt, byteAt, show BitVec.ofNat 8 c.toNat = c.extractLsb' 0 8 from rfl]
  ext i hi
  simp
  grind

/-- `decodeTableWord` reads every command word as the decoder does. -/
theorem decodeTableWord_toNat (c : CommandWord) : decodeTableWord 24 c.toNat = some (decode c) := by
  have hc : c.toNat < 2 ^ 20 := c.isLt
  have hmod : c.toNat % 2 ^ 24 = c.toNat := Nat.mod_eq_of_lt (by omega)
  have hlt : c.toNat < 2 ^ 24 := by omega
  have htop : (BitVec.ofNat 8 (c.toNat / 2 ^ 16)).toNat < 16 := by
    rw [BitVec.toNat_ofNat]
    omega
  simp only [decodeTableWord, hmod, if_pos hlt, decodeBytes, if_pos htop, commandWord_of_bytes]

/-- Settles O44: each request form has its command word, and a step runs what the word decodes to. -/
theorem stepRunsTheRequestedOperation : Obligations.StepRunsTheRequestedOperation := by
  intro s rest
  refine ⟨fun c hq => step_of_commandWord hq rfl, fun off hq => step_of_commandWord hq rfl,
    fun off v hq => step_of_commandWord hq rfl, fun hq => ?_,
    fun c => ⟨decode c, rfl, step_withFetchWord s c, decodeTableWord_toNat c⟩⟩
  rw [step, takeRequest_nil hq, idle]

end Sys2Proof.Machine
end

section
/-!
Decoding by the rows of the opcode table (30_encoding.md R64, R66, R67). A word determines the row it matches, and the
row together with the operand fields determines the operation. Decoding a row's words and decoding an encoded word are
both read off from that (`decode_of_matches`).
-/
namespace Sys2Proof

/-- The words of a row of the opcode table (R64). -/
abbrev OpcodeRow.Matches (r : OpcodeRow) (c : CommandWord) : Prop := c &&& r.mask = r.pattern

/-- The operation of the same row with the offset `o` and the data byte `d` for its operands, as far as it has them. -/
def Instr.withFields (o d : Byte) : Instr → Instr
  | .rdUnmapped08 _ => .rdUnmapped08 o
  | .rdUnmapped10 _ => .rdUnmapped10 o
  | .rdUnmapped20 _ => .rdUnmapped20 o
  | .rdUnmapped40 _ => .rdUnmapped40 o
  | .rdUnmapped80 _ => .rdUnmapped80 o
  | .wrThr _ => .wrThr d
  | .wrIer _ => .wrIer d
  | .wrFcr _ => .wrFcr d
  | .wrLcr _ => .wrLcr d
  | .wrMcr _ => .wrMcr d
  | .wrLsr _ => .wrLsr d
  | .wrMsr _ => .wrMsr d
  | .wrScr _ => .wrScr d
  | .wrUnmapped08 _ _ => .wrUnmapped08 o d
  | .wrUnmapped10 _ _ => .wrUnmapped10 o d
  | .wrUnmapped20 _ _ => .wrUnmapped20 o d
  | .wrUnmapped40 _ _ => .wrUnmapped40 o d
  | .wrUnmapped80 _ _ => .wrUnmapped80 o d
  | .rxpush _ => .rxpush d
  | .bwr _ => .bwr d
  | i => i

@[simp] theorem Instr.row_withFields (i : Instr) (o d : Byte) : (i.withFields o d).row = i.row := by
  cases i <;> rfl

@[simp] theorem Instr.withFields_withFields (i : Instr) (o d o' d' : Byte) :
    (i.withFields o' d').withFields o d = i.withFields o d := by
  cases i <;> rfl

/-- No data byte is illegal (R71). -/
theorem Instr.wellFormed_withFields_data (i : Instr) (o d d' : Byte) :
    (i.withFields o d).wellFormed = (i.withFields o d').wellFormed := by
  cases i <;> rfl

/-- The encoder writes each operand into the field it is read from. -/
theorem Instr.withFields_encode (i : Instr) : i.withFields (offField (encode i)) (dataField (encode i)) = i := by
  cases i <;> simp [encode, withFields]

/-! The rows are disjoint. -/

/-- One operation of every row, the operands zero. -/
def rowRepresentatives : List Instr := oneOfEachRow.map (Instr.withFields 0 0)

theorem Instr.withFields_zero_mem (i : Instr) : i.withFields 0 0 ∈ rowRepresentatives := by
  cases i <;> simp [rowRepresentatives, oneOfEachRow, withFields]

theorem Instr.row_mem_opcodeTable (i : Instr) : i.row ∈ opcodeTable := by
  have hmap : opcodeTable = rowRepresentatives.map row := by decide
  rw [hmap, ← i.row_withFields 0 0]
  exact List.mem_map_of_mem i.withFields_zero_mem

/-- No row looks at the data byte. -/
theorem Instr.dataField_mask (i : Instr) : dataField i.row.mask = 0 := by
  have htable : ∀ r ∈ opcodeTable, dataField r.mask = 0 := by decide
  exact htable i.row i.row_mem_opcodeTable

/-- Two different rows disagree on some bit that both fix. -/
theorem rowRepresentatives_disjoint : ∀ i ∈ rowRepresentatives, ∀ j ∈ rowRepresentatives,
    i.row.pattern &&& j.row.mask = j.row.pattern &&& i.row.mask → i = j := by
  decide

/-- A word lies in one row only. -/
theorem Instr.withFields_eq_of_matches {i j : Instr} {c : CommandWord} (hi : i.row.Matches c) (hj : j.row.Matches c)
    (o d : Byte) : i.withFields o d = j.withFields o d := by
  have hcommon : i.row.pattern &&& j.row.mask = j.row.pattern &&& i.row.mask := by
    rw [← hi, ← hj, BitVec.and_assoc, BitVec.and_assoc, BitVec.and_comm i.row.mask]
  have hkind : i.withFields 0 0 = j.withFields 0 0 :=
    rowRepresentatives_disjoint _ i.withFields_zero_mem _ j.withFields_zero_mem (by simpa using hcommon)
  rw [← i.withFields_withFields o d 0 0, hkind, j.withFields_withFields]

/-! What the decoder reads. -/

theorem decodeRead_withFields (o d : Byte) : (decodeRead o).withFields o d = decodeRead o := by
  unfold decodeRead
  simp only [apply_ite (Instr.withFields o d)]
  rfl

theorem decodeWrite_withFields (o d d' : Byte) : (decodeWrite o d').withFields o d = decodeWrite o d := by
  unfold decodeWrite
  simp only [apply_ite (Instr.withFields o d)]
  rfl

/-- The decoder takes each operand from its field, and the data byte selects no row. -/
theorem decodeFields_withFields (p : BitVec 3) (w : Bool) (o d d' : Byte) :
    (decodeFields p w o d').withFields o d = decodeFields p w o d := by
  unfold decodeFields
  split
  · exact decodeRead_withFields o d
  · exact decodeWrite_withFields o d d'
  all_goals rfl

/-- Every port but BUS ignores the offset (R67). -/
theorem decodeFields_off_ignored {p : BitVec 3} (hp : p ≠ 0) (w : Bool) (o d : Byte) :
    decodeFields p w o d = decodeFields p w 0 d := by
  have h0 : p.toNat ≠ 0 := fun h => hp (BitVec.eq_of_toNat_eq h)
  unfold decodeFields
  split
  · contradiction
  · contradiction
  all_goals rfl

/-- The read-like operation of every port ignores the data byte (R67). -/
theorem decodeFields_data_ignored (p : BitVec 3) (o d : Byte) : decodeFields p false o d = decodeFields p false o 0 := by
  unfold decodeFields
  match p.toNat with
  | 0 | 1 | 2 | 3 | 4 | 5 | _ + 6 => rfl

/-! Every word matches the row it decodes to: masks drop the data byte, and on every port but BUS the offset. -/

/-- Masking a word masks its fields. -/
theorem pack_and (p : BitVec 3) (w : Bool) (o d : Byte) (m : CommandWord) : packCommand p w o d &&& m =
    packCommand (p &&& portField m) (w && writeField m) (o &&& offField m) (d &&& dataField m) := by
  rw [← pack_and_pack, pack_fields]

section
variable {i : Instr} {p : BitVec 3} {w : Bool} {o d : Byte}

theorem Instr.matches_pack_data : i.row.Matches (packCommand p w o d) ↔ i.row.Matches (packCommand p w o 0) := by
  simp [OpcodeRow.Matches, pack_and, i.dataField_mask]

theorem Instr.matches_pack_off (h : offField i.row.mask = 0) :
    i.row.Matches (packCommand p w o d) ↔ i.row.Matches (packCommand p w 0 d) := by
  simp [OpcodeRow.Matches, pack_and, h]

end

theorem decodeFields_row (p : BitVec 3) (w : Bool) (o d : Byte) :
    (decodeFields p w o d).row = (decodeFields p w o 0).row := by
  rw [← decodeFields_withFields p w o d 0, Instr.row_withFields]

theorem decodeFields_bus_matches : ∀ (w : Bool) (o : Byte),
    (decodeFields 0 w o 0).row.Matches (packCommand 0 w o 0) := by
  decide

theorem decodeFields_port_matches : ∀ (p : BitVec 3) (w : Bool), p ≠ 0 →
    (decodeFields p w 0 0).row.Matches (packCommand p w 0 0) ∧ offField (decodeFields p w 0 0).row.mask = 0 := by
  decide

theorem decodeFields_matches (p : BitVec 3) (w : Bool) (o d : Byte) :
    (decodeFields p w o d).row.Matches (packCommand p w o d) := by
  rw [Instr.matches_pack_data, decodeFields_row]
  by_cases hp : p = 0
  · rw [hp]
    exact decodeFields_bus_matches w o
  · obtain ⟨hmatch, hoff⟩ := decodeFields_port_matches p w hp
    rw [decodeFields_off_ignored hp, Instr.matches_pack_off hoff]
    exact hmatch

theorem decode_matches (c : CommandWord) : (decode c).row.Matches c := by
  have h := decodeFields_matches (portField c) (writeField c) (offField c) (dataField c)
  rwa [pack_fields] at h

/-- A word of a row decodes to the row's operation, with its operands taken from the word. -/
theorem decode_of_matches {i : Instr} {c : CommandWord} (h : i.row.Matches c) :
    decode c = i.withFields (offField c) (dataField c) :=
  calc decode c = (decode c).withFields (offField c) (dataField c) := (decodeFields_withFields _ _ _ _ _).symm
    _ = i.withFields (offField c) (dataField c) := Instr.withFields_eq_of_matches (decode_matches c) h _ _

open Laws.EncodesInItsRow in
/-- The word of a well-formed operation lies in the operation's row. -/
theorem encode_matches : (i : Instr) → i.wellFormed = true → i.row.Matches (encode i)
  | .rdRbr => rdRbr
  | .rdIer => rdIer
  | .rdIir => rdIir
  | .rdLcr => rdLcr
  | .rdMcr => rdMcr
  | .rdLsr => rdLsr
  | .rdMsr => rdMsr
  | .rdScr => rdScr
  | .rdUnmapped08 o => rdUnmapped08 o
  | .rdUnmapped10 o => rdUnmapped10 o
  | .rdUnmapped20 o => rdUnmapped20 o
  | .rdUnmapped40 o => rdUnmapped40 o
  | .rdUnmapped80 o => rdUnmapped80 o
  | .wrThr v => wrThr v
  | .wrIer v => wrIer v
  | .wrFcr v => wrFcr v
  | .wrLcr v => wrLcr v
  | .wrMcr v => wrMcr v
  | .wrLsr v => wrLsr v
  | .wrMsr v => wrMsr v
  | .wrScr v => wrScr v
  | .wrUnmapped08 o v => wrUnmapped08 o v
  | .wrUnmapped10 o v => wrUnmapped10 o v
  | .wrUnmapped20 o v => wrUnmapped20 o v
  | .wrUnmapped40 o v => wrUnmapped40 o v
  | .wrUnmapped80 o v => wrUnmapped80 o v
  | .txpop => txpop
  | .rxpush v => rxpush v
  | .teardown => teardown
  | .init => init
  | .fstat => fstat
  | .reservedDiagW => reservedDiagW
  | .brd => brd
  | .bwr v => bwr v
  | .reservedPort5 => reservedPort5
  | .reservedPort67 => reservedPort67

theorem decode_encode {i : Instr} (h : i.wellFormed = true) : decode (encode i) = i := by
  rw [decode_of_matches (encode_matches i h), i.withFields_encode]

/-! Every word decodes to a well-formed operation: an unmapped offset lies in the range of its highest set bit. -/

theorem decodeRead_wellFormed : ∀ o : Byte, (decodeRead o).wellFormed = true := by
  decide

theorem decodeWrite_wellFormed (o d : Byte) : (decodeWrite o d).wellFormed = true := by
  have hzero : ∀ o : Byte, (decodeWrite o 0).wellFormed = true := by decide
  rw [← decodeWrite_withFields o d 0, Instr.wellFormed_withFields_data _ o d 0, decodeWrite_withFields]
  exact hzero o

theorem decodeFields_wellFormed (p : BitVec 3) (w : Bool) (o d : Byte) : (decodeFields p w o d).wellFormed = true := by
  unfold decodeFields
  split
  · exact decodeRead_wellFormed o
  · exact decodeWrite_wellFormed o d
  all_goals rfl

/-- The encoder writes the offset that a port other than BUS ignores as zero (R67). -/
theorem offField_encode_of_port {i : Instr} (h : portField (encode i) ≠ 0) : offField (encode i) = 0 := by
  cases i <;> simp [encode] at h ⊢

end Sys2Proof
end

section
/-!
The statements about the encoding (30_encoding.md).
-/
namespace Sys2Proof

/-- Settles O47: the word of a well-formed operation lies in the operation's row and holds its operands, and the
decoder puts an offset in the row of its range. -/
theorem decodeInvertsEncode : Obligations.DecodeInvertsEncode :=
  ⟨fun _ h => decode_encode h, fun _ => decodeFields_wellFormed _ _ _ _⟩

/-- Settles O48: the decoded row matches, and a row that matches is the decoded one. -/
theorem eachWordMatchesExactlyItsRow : Obligations.EachWordMatchesExactlyItsRow := by
  refine ⟨rfl, fun c => ⟨(decode c).row_mem_opcodeTable, decode_matches c, fun r hr hmatch => ?_⟩⟩
  obtain ⟨i, -, rfl⟩ := List.mem_map.1 hr
  rw [decode_of_matches hmatch, Instr.row_withFields]

/-- Settles O22: the three regions are the rows of the reserved operations, which every state refuses. -/
theorem reservedWordsAreRefused : Obligations.ReservedWordsAreRefused :=
  ⟨fun _ => ⟨decode_of_matches (i := .reservedDiagW), decode_of_matches (i := .reservedPort5),
      decode_of_matches (i := .reservedPort67)⟩,
    fun s => ⟨Machine.exec_of_reserved rfl s, Machine.exec_of_reserved rfl s, Machine.exec_of_reserved rfl s⟩⟩

/-- Settles O46, by evaluation of the decoder on each word. -/
theorem writtenOutWordsDecode : Obligations.WrittenOutWordsDecode := by
  unfold Obligations.WrittenOutWordsDecode
  decide

/-- Settles O49: the decoder's clauses are facts about the fields of a packed word; in the last clause every operation
with a data byte is excluded, and the encoder gives each other one the data byte zero. -/
theorem ignoredFieldsAreMaskedOutAndEncodedAsZero : Obligations.IgnoredFieldsAreMaskedOutAndEncodedAsZero := by
  unfold Obligations.IgnoredFieldsAreMaskedOutAndEncodedAsZero
  simp only [decode_pack]
  refine ⟨decodeFields_data_ignored 0, fun p w o d hp => ⟨decodeFields_off_ignored hp w o d, fun hw => ?_⟩,
    fun _ _ => rfl, fun _ => offField_encode_of_port, fun i hunmapped hdata => ?_⟩
  · rw [hw, decodeFields_off_ignored hp, decodeFields_data_ignored]
  · cases i <;> simp [encode] at hunmapped hdata ⊢

end Sys2Proof
end

section
/-!
The FIFO engine (40_fifo_engine.md): the statements about one FIFO, then those about the operations at a FIFO's end.
-/
namespace Sys2Proof.Machine

/-- The count is the integer formula of R82: the remainder is never negative. -/
theorem Fifo.occupiedCount_cast (F : Fifo) :
    (F.occupiedCount : Int) = ((F.tail.val : Int) - F.head.val + 16) % 16 :=
  Int.toNat_of_nonneg (Int.emod_nonneg _ (by decide))

theorem Fifo.isFull_iff_val (F : Fifo) : F.isFull = true ↔ (F.tail.val + 1) % 16 = F.head.val := by
  rw [F.isFull_iff, Fin.ext_iff, advance_val]

/-- Settles O25: empty is a count of 0 and full a count of 15, and the count is the number of pending bytes. -/
theorem countEmptyFullAgree : Obligations.CountEmptyFullAgree := by
  intro F
  refine ⟨F.occupiedCount_cast, F.occupiedCount_le, F.isEmpty_iff, F.isEmpty_iff_count, F.isFull_iff_val,
    F.isFull_iff_count, ?_, F.length_pending⟩
  rw [F.isEmpty_iff_count, F.isFull_iff_count]
  omega

/-- Enqueues append their bytes, and what exceeds 15 bytes is dropped. -/
theorem Fifo.pending_foldl_enqueue (bytes : List Byte) (F : Fifo) :
    (bytes.foldl Fifo.enqueue F).pending = (F.pending ++ bytes).take 15 := by
  induction bytes generalizing F with
  | nil =>
    rw [List.foldl_nil, List.append_nil, List.take_of_length_le (F.length_pending ▸ F.occupiedCount_le)]
  | cons b bytes ih =>
    have hcut (l : List Byte) : (l.take 15 ++ bytes).take 15 = (l ++ bytes).take 15 := by
      rw [List.take_append, List.take_append, List.take_take, List.length_take]
      congr 2
      omega
    rw [List.foldl_cons, ih, F.pending_enqueue, hcut, List.append_assoc, List.singleton_append]

/-- Nothing is dropped of bytes that fit (R85). -/
theorem Fifo.pending_foldl_enqueue_of_fits {F : Fifo} {bytes : List Byte}
    (h : F.occupiedCount + bytes.length ≤ 15) : (bytes.foldl Fifo.enqueue F).pending = F.pending ++ bytes := by
  rw [Fifo.pending_foldl_enqueue, List.take_of_length_le]
  rwa [List.length_append, F.length_pending]

/-- Dequeues return the pending bytes first to last: as many as the list `l` at the front return `l` and leave the
rest. -/
theorem Fifo.drain_of_pending (d : Byte) {F : Fifo} {l m : List Byte} (h : F.pending = l ++ m) :
    (Fifo.drain d l.length F).1 = l ∧ (Fifo.drain d l.length F).2.pending = m := by
  induction l generalizing F with
  | nil => exact ⟨rfl, h⟩
  | cons b l ih =>
    have hfirst : (F.dequeue d).1 = b := by rw [F.dequeue_fst, h, List.cons_append, List.headD_cons]
    have hrest : (F.dequeue d).2.pending = l ++ m := by rw [F.pending_dequeue, h, List.cons_append, List.tail_cons]
    obtain ⟨hbytes, hleft⟩ := ih hrest
    exact ⟨congrArg₂ List.cons hfirst hbytes, hleft⟩

/-- Settles O26: an enqueue appends at the end of the pending list, a dequeue takes from its front. -/
theorem fifoReturnsBytesInOrder : Obligations.FifoReturnsBytesInOrder := by
  refine ⟨fun F b h => Fifo.pending_foldl_enqueue_of_fits (bytes := [b]) h, fun F d h => ?_, fun F bytes d h => ?_⟩
  · rcases F.dequeue_cases d with ⟨hempty, -⟩ | ⟨hempty, hd⟩
    · exact absurd (F.isEmpty_iff.1 hempty) h
    · rw [hd, F.pending_advance hempty]
  · have hdrain := Fifo.drain_of_pending d (m := []) <|
      (Fifo.pending_foldl_enqueue_of_fits h).trans (List.append_nil _).symm
    rwa [List.length_append, F.length_pending] at hdrain

/-! A full FIFO and an empty one (R86, R87). -/

theorem Fifo.enqueue_of_full {F : Fifo} (b : Byte) (h : F.occupiedCount = 15) : F.enqueue b = F := by
  rcases F.enqueue_cases b with ⟨-, hF⟩ | ⟨hroom, -⟩
  · exact hF
  · exact absurd h (Fifo.count_lt_of_not_full hroom).ne

theorem Fifo.dequeue_of_empty {F : Fifo} (d : Byte) (h : F.occupiedCount = 0) : F.dequeue d = (d, F) := by
  rcases F.dequeue_cases d with ⟨-, hF⟩ | ⟨hsome, -⟩
  · exact hF
  · exact absurd h (Fifo.count_pos_of_not_empty hsome).ne'

theorem State.popRx_of_empty {s : State} (h : s.rx.occupiedCount = 0) : s.popRx = { s with result := .byte 0xFF } := by
  rw [State.popRx, Fifo.dequeue_of_empty _ h]
  rfl

theorem State.popTx_of_empty {s : State} (h : s.tx.occupiedCount = 0) : s.popTx = { s with result := .byte 0x00 } := by
  rw [State.popTx, Fifo.dequeue_of_empty _ h]
  rfl

theorem State.pushRx_of_full {s : State} (v : Byte) (h : s.rx.occupiedCount = 15) : s.pushRx v = s := by
  rw [State.pushRx, Fifo.enqueue_of_full v h]
  rfl

theorem State.pushTx_of_full {s : State} (v : Byte) (h : s.tx.occupiedCount = 15) : s.pushTx v = s := by
  rw [State.pushTx, Fifo.enqueue_of_full v h]
  rfl

/-- In a Ready block an operation with an effect completes with it. -/
theorem exec_of_effectOf_of_ready {i : Instr} {e : Effect} {s : State} (he : effectOf i = some e)
    (hs : s.life = .ready) : exec i s = .next (e.apply s) :=
  (exec_of_effectOf he s).trans (whenReady_of_ready hs)

/-- Settles O27: the FIFO does not change, so of the state only the result does. -/
theorem overflowDropsAndUnderflowReturnsTheSentinel : Obligations.OverflowDropsAndUnderflowReturnsTheSentinel := by
  refine ⟨fun F b => F.enqueue_of_full b, fun F d => F.dequeue_of_empty d, fun s hs => ⟨fun h => ?_, fun h => ?_,
    fun h v => ?_, fun h v => ?_⟩⟩
  · have hread {i : Instr} (he : effectOf i = some .popRx) : exec i s = .next { s with result := .byte 0xFF } := by
      rw [exec_of_effectOf_of_ready he hs, Effect.apply, State.popRx_of_empty h]
    exact ⟨hread rfl, hread rfl⟩
  · rw [exec_of_effectOf_of_ready (e := .popTx) rfl hs, Effect.apply, State.popTx_of_empty h]
  · rw [exec_of_effectOf_of_ready (e := .pushRx v) rfl hs, Effect.apply, State.pushRx_of_full v h, State.setResult]
  · rw [exec_of_effectOf_of_ready (e := .pushTx v) rfl hs, Effect.apply, State.pushTx_of_full v h, State.setResult]

/-! The two sides (R89). An operation at the receive FIFO is a function of that FIFO, one at the transmit FIFO a
function of the other, and neither writes what the other reads. -/

/-- A dequeue as a new FIFO and a result. -/
def Fifo.popWith (d : Byte) (F : Fifo) : Fifo × Result := ((F.dequeue d).2, .byte (F.dequeue d).1)

/-- An enqueue as a new FIFO and a result. -/
def Fifo.pushWith (v : Byte) (F : Fifo) : Fifo × Result := (F.enqueue v, .nothing)

/-- Replace the receive FIFO and the result by what `g` makes of the receive FIFO. -/
def State.updateRx (g : Fifo → Fifo × Result) (s : State) : State :=
  { s with rx := (g s.rx).1, result := (g s.rx).2 }

/-- Replace the transmit FIFO and the result by what `g` makes of the transmit FIFO, and the sink by what `out` makes
of it. -/
def State.updateTx (g : Fifo → Fifo × Result) (out : List Byte → List Byte) (s : State) : State :=
  { s with tx := (g s.tx).1, result := (g s.tx).2, sink := out s.sink }

theorem exec_receiveSide {i : Instr} (hi : i = .rdRbr ∨ i = .brd ∨ ∃ v, i = .rxpush v) :
    ∃ g, ∀ s : State, s.life = .ready → exec i s = .next (s.updateRx g) := by
  rcases hi with rfl | rfl | ⟨v, rfl⟩
  · exact ⟨Fifo.popWith Config.rxEmptyValue, fun _ hs => exec_of_effectOf_of_ready (e := .popRx) rfl hs⟩
  · exact ⟨Fifo.popWith Config.rxEmptyValue, fun _ hs => exec_of_effectOf_of_ready (e := .popRx) rfl hs⟩
  · exact ⟨Fifo.pushWith v, fun _ hs => exec_of_effectOf_of_ready (e := .pushRx v) rfl hs⟩

theorem exec_transmitSide {j : Instr} (hj : j = .txpop ∨ ∃ v, j = .wrThr v ∨ j = .bwr v) :
    ∃ g out, ∀ s : State, s.life = .ready → exec j s = .next (s.updateTx g out) := by
  rcases hj with rfl | ⟨v, rfl | rfl⟩
  · exact ⟨Fifo.popWith Config.txEmptyValue, id, fun _ hs => exec_of_effectOf_of_ready (e := .popTx) rfl hs⟩
  · exact ⟨Fifo.pushWith v, (· ++ [v]), fun _ hs => exec_of_effectOf_of_ready (e := .transmit v) rfl hs⟩
  · exact ⟨Fifo.pushWith v, id, fun _ hs => exec_of_effectOf_of_ready (e := .pushTx v) rfl hs⟩

/-- Settles O28: both operations complete in either order, since neither leaves the Ready state, and their updates are
of different fields but for the result. -/
theorem receiveAndTransmitSidesCommute : Obligations.ReceiveAndTransmitSidesCommute := by
  intro i j s hs hi hj
  obtain ⟨gRx, hrx⟩ := exec_receiveSide hi
  obtain ⟨gTx, out, htx⟩ := exec_transmitSide hj
  exact ⟨_, _, _, _, hrx s hs, htx (s.updateRx gRx) hs, htx s hs, hrx (s.updateTx gTx out) hs, rfl, rfl, rfl, rfl, rfl⟩

end Sys2Proof.Machine
end

section
/-!
Runs of a Ready block whose requests each name an operation with an effect: the run applies the effects in their
order. The pushes and reads of the receive FIFO are one such run.
-/
namespace Sys2Proof.Machine

/-- The request names an operation with the effect `e`. -/
def Request.HasEffect (r : Request) (e : Effect) : Prop := ∃ c, r.commandWord = some c ∧ effectOf (decode c) = some e

/-- The state that effects leave, one after the other. -/
def Effect.applyAll (es : List Effect) (s : State) : State := es.foldl (fun t e => e.apply t) s

@[simp] theorem Effect.applyAll_nil (s : State) : applyAll [] s = s := rfl

@[simp] theorem Effect.applyAll_cons (e : Effect) (es : List Effect) (s : State) :
    applyAll (e :: es) s = applyAll es (e.apply s) := rfl

@[simp] theorem Effect.applyAll_append (es fs : List Effect) (s : State) :
    applyAll (es ++ fs) s = applyAll fs (applyAll es s) := List.foldl_append

/-- No effect reads the requests. -/
theorem Effect.apply_setRequests (e : Effect) (s : State) (q : List Request) :
    e.apply { s with requests := q } = { e.apply s with requests := q } := by
  cases e with
  | store r v => cases r <;> rfl
  | load r => cases r <;> rfl
  | _ => rfl

/-- A Ready block runs requests that have effects to the end of them, and what is left is their effects. -/
theorem run_of_effects {rs : List Request} {es : List Effect} (h : List.Forall₂ Request.HasEffect rs es) {s : State}
    {rest : List Request} (hs : s.life = .ready) (hq : s.requests = rs ++ rest) :
    run rs.length s = .next (Effect.applyAll es { s with requests := rest }) := by
  induction h generalizing s with
  | nil =>
    obtain rfl : s.requests = rest := hq
    rfl
  | @cons r e rs es hr _ ih =>
    obtain ⟨c, hc, he⟩ := hr
    have hstep : step s = .next (e.apply { s with requests := rs ++ rest }) :=
      (step_of_commandWord hq hc).trans (exec_of_effectOf_of_ready he hs)
    rw [List.length_cons, run_succ_of_next hstep,
      ih (s := e.apply { s with requests := rs ++ rest }) ((e.apply_life _).trans hs) (e.apply_requests _),
      ← e.apply_setRequests, Effect.applyAll_cons]

/-! The requests of O43 and their effects on the receive FIFO. -/

theorem pushs_effects (bytes : List Byte) : List.Forall₂ Request.HasEffect (pushs bytes) (bytes.map .pushRx) := by
  rw [pushs, List.forall₂_map_left_iff, List.forall₂_map_right_iff, List.forall₂_same]
  exact fun v _ => ⟨_, rfl, by rw [decode_pack]; rfl⟩

theorem reads_effects (n : Nat) :
    List.Forall₂ Request.HasEffect (List.replicate n (.memRead 0x00 1)) (List.replicate n .popRx) := by
  induction n with
  | zero => exact .nil
  | succ n ih => exact .cons ⟨_, rfl, rfl⟩ ih

theorem Effect.applyAll_pushRx_rx (bytes : List Byte) (s : State) :
    (applyAll (bytes.map .pushRx) s).rx = bytes.foldl Fifo.enqueue s.rx := by
  induction bytes generalizing s with
  | nil => rfl
  | cons v bytes ih => exact ih ((Effect.pushRx v).apply s)

/-- Reads of the receive FIFO: the last one returns the byte behind the bytes `l` that those before it took away. -/
theorem Effect.applyAll_popRx {s : State} {l m : List Byte} {b : Byte} (h : s.rx.pending = l ++ b :: m) :
    (applyAll (List.replicate (l.length + 1) .popRx) s).result = .byte b ∧
      (applyAll (List.replicate (l.length + 1) .popRx) s).rx.pending = m := by
  induction l generalizing s with
  | nil =>
    constructor
    · exact congrArg Result.byte ((s.rx.dequeue_fst _).trans (by rw [h, List.nil_append, List.headD_cons]))
    · exact (s.rx.pending_dequeue _).trans (by rw [h, List.nil_append, List.tail_cons])
  | cons a l ih =>
    have hpop : s.popRx.rx.pending = l ++ b :: m :=
      (s.rx.pending_dequeue _).trans (by rw [h, List.cons_append, List.tail_cons])
    exact ih hpop

/-- Settles O43: the pushes leave all their bytes pending, `k` reads take away the first `k`, and the next read
returns the byte after them. -/
theorem pushedBytesAreReadBackInOrder : Obligations.PushedBytesAreReadBackInOrder := by
  intro bytes rest s k hk hs hempty hfits hq
  obtain ⟨n, hn⟩ : ∃ n, bytes.length = k + 1 + n := Nat.exists_eq_add_of_le hk
  have hrun := run_of_effects (rest := List.replicate n (.memRead 0x00 1) ++ rest)
    (List.rel_append (pushs_effects bytes) (reads_effects (k + 1))) hs
    (by rw [hq, hn, List.replicate_add]; simp only [List.append_assoc])
  rw [List.length_append, pushs, List.length_map, List.length_replicate, Effect.applyAll_append] at hrun
  refine ⟨_, hrun, ?_⟩
  have hpushed (u : State) (hu : u.rx = s.rx) :
      (Effect.applyAll (bytes.map .pushRx) u).rx.pending = bytes.take k ++ bytes[k] :: bytes.drop (k + 1) := by
    rw [Effect.applyAll_pushRx_rx, hu, Fifo.pending_foldl_enqueue, hempty, List.nil_append,
      List.take_of_length_le hfits, ← List.drop_eq_getElem_cons, List.take_append_drop]
  have hread := Effect.applyAll_popRx (hpushed { s with requests := List.replicate n (.memRead 0x00 1) ++ rest } rfl)
  rwa [List.length_take_of_le hk.le] at hread

end Sys2Proof.Machine
end

section
/-!
The line status value (41_lsr_status_logic.md) and the read-only offsets: LSR is one of two bytes, and a write that does
not touch what a read looks at does not change what the read returns.
-/
namespace Sys2Proof.Machine

/-- The two values of LSR, by the receive FIFO: the other two flags are constants (R92). -/
theorem lsr_eq_ite_isEmpty (s : State) : lsr s = if s.rx.isEmpty then 0x60 else 0x61 := by
  rw [lsr, transmitFifoEmpty, transmitHoldingEmpty, dataReady]
  cases s.rx.isEmpty <;> decide

/-- Settles O30: with the receive FIFO empty or not, each bit is read off the one value LSR has. -/
theorem lsrBitsFollowTheirRules : Obligations.LsrBitsFollowTheirRules := by
  intro s
  cases hempty : s.rx.isEmpty with
  | true =>
    have hcursors : s.rx.head = s.rx.tail := s.rx.isEmpty_iff.1 hempty
    have hlsr : lsr s = 0x60 := by rw [lsr_eq_ite_isEmpty, hempty, if_pos rfl]
    simp [hlsr, hcursors]
  | false =>
    have hcursors : s.rx.head ≠ s.rx.tail := by simp [← s.rx.isEmpty_iff, hempty]
    have hlsr : lsr s = 0x61 := by rw [lsr_eq_ite_isEmpty, hempty, if_neg nofun]
    simp [hlsr, hcursors]

/-- A read whose answer the operation before it leaves alone returns what it would have returned before. -/
theorem exec_read_after_of_kept {wr rd : Instr} {e f : Effect} {s : State} {answer : State → Byte}
    (hs : s.life = .ready) (hwr : effectOf wr = some e) (hrd : effectOf rd = some f)
    (hf : ∀ u, f.apply u = u.setResult (.byte (answer u))) (hkept : answer (e.apply s) = answer s) :
    ∃ t, exec wr s = .next t ∧ exec rd t = .next { t with result := .byte (answer s) } := by
  refine ⟨e.apply s, exec_of_effectOf_of_ready hwr hs, ?_⟩
  rw [exec_of_effectOf_of_ready hrd ((e.apply_life s).trans hs), hf, hkept, State.setResult]

/-- Settles O11: the writes at these offsets store to neither MSR nor IIR, and they leave the receive FIFO, the one thing
LSR depends on, alone. -/
theorem writesDoNotReachReadOnlyOffsets : Obligations.WritesDoNotReachReadOnlyOffsets := by
  intro v s hs
  have hMSR := Effect.apply_MSR (e := .answer .nothing) s nofun
  have hIIR := Effect.apply_IIR (e := .store .FCR v) s nofun
  have hrx := Effect.apply_rx (e := .answer .nothing) s nofun nofun
  exact ⟨exec_read_after_of_kept hs rfl rfl (fun _ => rfl) hMSR,
    exec_read_after_of_kept hs rfl rfl (fun _ => rfl) hIIR,
    exec_read_after_of_kept hs rfl rfl (fun _ => rfl) (lsr_eq_of_pending_eq (congrArg Fifo.pending hrx))⟩

end Sys2Proof.Machine
end

section
/-!
Register reads (42_register_read.md): each offset's read as an effect, a dequeue of the receive FIFO and LSR by its
cursors, and the answers of the other reads.
-/
namespace Sys2Proof.Machine

/-! The receive FIFO seen by its cursors. -/

theorem State.popRx_of_head_eq_tail {s : State} (h : s.rx.head = s.rx.tail) :
    s.popRx = { s with result := .byte 0xFF } :=
  State.popRx_of_empty (s.rx.isEmpty_iff_count.1 (s.rx.isEmpty_iff.2 h))

theorem Fifo.isEmpty_eq_false {F : Fifo} (h : F.head ≠ F.tail) : F.isEmpty = false := by
  rwa [Bool.eq_false_iff, ne_eq, F.isEmpty_iff]

theorem State.popRx_of_head_ne_tail {s : State} (h : s.rx.head ≠ s.rx.tail) :
    s.popRx = { s with
      rx := { s.rx with head := s.rx.head + 1 }
      result := .byte s.rx.buf[s.rx.head.val] } := by
  rcases s.rx.dequeue_cases Config.rxEmptyValue with ⟨hempty, -⟩ | ⟨-, hd⟩
  · exact absurd (s.rx.isEmpty_iff.1 hempty) h
  · rw [State.popRx, hd, advance_eq_add_one, State.setResult, State.setRx]

/-- DR is set exactly while a byte is pending (41_lsr_status_logic.md R91). -/
theorem dataReady_iff_count (s : State) : dataReady s = true ↔ s.rx.occupiedCount ≠ 0 := by
  rw [dataReady, Bool.not_eq_true', Bool.eq_false_iff, ne_eq, s.rx.isEmpty_iff_count]

/-- A dequeue that finds a byte takes one off the count. -/
theorem Fifo.occupiedCount_advance {F : Fifo} (h : F.head ≠ F.tail) :
    F.occupiedCount = Fifo.occupiedCount { F with head := F.head + 1 } + 1 := by
  have hpending := congrArg List.length (F.pending_advance (Fifo.isEmpty_eq_false h))
  rwa [List.length_cons, Fifo.length_pending, Fifo.length_pending, advance_eq_add_one] at hpending

theorem lsr_eq_ite_cursors (s : State) : lsr s = if s.rx.head ≠ s.rx.tail then 0x61 else 0x60 := by
  simp only [lsr_eq_ite_isEmpty, s.rx.isEmpty_iff, ite_not]

/-! The dispatch of a read (R100). -/

/-- The effect of the read of an offset. -/
def readEffect (off : Byte) : Effect :=
  if off = 0x00 then .popRx
  else if off = 0x01 then .load .IER
  else if off = 0x02 then .load .IIR
  else if off = 0x03 then .load .LCR
  else if off = 0x04 then .load .MCR
  else if off = 0x05 then .status
  else if off = 0x06 then .load .MSR
  else if off = 0x07 then .load .SCR
  else .answer (.byte Config.unmappedReadValue)

/-- The five rows of an unmapped offset have one effect, so the decoder's choice among them does not matter. -/
theorem effectOf_decodeRead (off : Byte) : effectOf (decodeRead off) = some (readEffect off) := by
  simp only [decodeRead, readEffect, apply_ite effectOf, apply_ite some]
  simp only [effectOf, ite_self]
  rfl

/-- Settles O5: the word decodes to the read of its offset, and each arm of the dispatch is the effect of that read. -/
theorem busReadDispatchesOnTheOffset : Obligations.BusReadDispatchesOnTheOffset := by
  intro off data s hs
  have heffect : effectOf (decode (packCommand 0 false off data)) = some (readEffect off) := by
    rw [decode_pack]
    exact effectOf_decodeRead off
  rw [exec_of_effectOf_of_ready heffect hs, ← lsr_eq_ite_cursors, readEffect]
  congr 1
  split_ifs with _ hcursors
  · exact State.popRx_of_head_eq_tail hcursors
  · exact State.popRx_of_head_ne_tail hcursors
  all_goals rfl

/-- Settles O1: a dequeue by the cursors; a byte is left pending exactly when the count was not 1. -/
theorem rdRbrDequeuesReceiveFifo : Obligations.RdRbrDequeuesReceiveFifo := by
  refine ⟨fun _ => decode_of_matches (i := .rdRbr), fun s hs => ?_⟩
  have hread : exec .rdRbr s = .next s.popRx := exec_of_effectOf_of_ready (e := .popRx) rfl hs
  refine ⟨fun h => by rw [hread, State.popRx_of_head_eq_tail h], fun h => ⟨_, hread, State.popRx_of_head_ne_tail h, ?_⟩⟩
  rw [State.popRx_of_head_ne_tail h, dataReady_iff_count, Fifo.occupiedCount_advance h]
  simp

/-- Settles O2: each of these reads loads its register, and the invariant fixes IIR and MSR in a Ready block. -/
theorem rdStoredRegisterReturnsItUnmodified : Obligations.RdStoredRegisterReturnsItUnmodified := by
  refine ⟨fun _ => ⟨decode_of_matches (i := .rdIer), decode_of_matches (i := .rdIir), decode_of_matches (i := .rdLcr),
    decode_of_matches (i := .rdMcr), decode_of_matches (i := .rdMsr), decode_of_matches (i := .rdScr)⟩, fun s hs => ?_⟩
  have hload (r : Reg) {i : Instr} (he : effectOf i = some (.load r)) :
      exec i s = .next { s with result := .byte (s.readReg r) } := exec_of_effectOf_of_ready he hs
  refine ⟨hload .IER rfl, hload .IIR rfl, hload .LCR rfl, hload .MCR rfl, hload .MSR rfl, hload .SCR rfl, fun hinv => ?_⟩
  obtain ⟨hIIR, hMSR⟩ := hinv hs
  exact ⟨hIIR ▸ hload .IIR rfl, hMSR ▸ hload .MSR rfl⟩

/-- Settles O3: LSR has one of two values, by the receive cursors; its read returns it, and its write stores nothing. -/
theorem rdLsrComputesFromReceiveCursors : Obligations.RdLsrComputesFromReceiveCursors := by
  refine ⟨fun _ => decode_of_matches (i := .rdLsr), fun c h => ⟨dataField c, decode_of_matches (i := .wrLsr 0) h⟩,
    fun s => ⟨?_, ?_, fun hs => ⟨?_, fun v => exec_of_effectOf_of_ready (e := .answer .nothing) rfl hs⟩⟩⟩
  · rw [lsr_eq_ite_cursors]
    split <;> rfl
  · rw [lsr_eq_ite_cursors]
    split <;> rfl
  · rw [← lsr_eq_ite_cursors]
    exact exec_of_effectOf_of_ready (e := .status) rfl hs

/-- Settles O4: the five rows answer the same byte, whatever the offset. -/
theorem rdUnmappedReturnsFF : Obligations.RdUnmappedReturnsFF := by
  refine ⟨fun _ => ⟨decode_of_matches (i := .rdUnmapped08 0), decode_of_matches (i := .rdUnmapped10 0),
    decode_of_matches (i := .rdUnmapped20 0), decode_of_matches (i := .rdUnmapped40 0),
    decode_of_matches (i := .rdUnmapped80 0)⟩, fun off s hs => ?_⟩
  have hanswer {i : Instr} (he : effectOf i = some (.answer (.byte Config.unmappedReadValue))) :
      exec i s = .next { s with result := .byte 0xFF } := exec_of_effectOf_of_ready he hs
  exact ⟨hanswer rfl, hanswer rfl, hanswer rfl, hanswer rfl, hanswer rfl⟩

end Sys2Proof.Machine
end

section
/-!
Register writes (43_register_write.md): each offset's write as an effect, the transmit FIFO by its cursors, and the
stores and discards of the other writes.
-/
namespace Sys2Proof.Machine

/-! The write to THR: an enqueue into the transmit FIFO, by its cursors. -/

theorem Fifo.enqueue_eq_ite (F : Fifo) (b : Byte) : F.enqueue b =
    if F.tail + 1 = F.head then F else { F with buf := F.buf.set F.tail.val b, tail := F.tail + 1 } := by
  simp only [Fifo.enqueue, F.isFull_iff, advance_eq_add_one]

/-- The sink has the byte whether or not the FIFO has room for it (R111). -/
theorem Effect.apply_transmit_eq (v : Byte) (s : State) : (Effect.transmit v).apply s = { s with
    tx := if s.tx.tail + 1 = s.tx.head then s.tx
      else { s.tx with buf := s.tx.buf.set s.tx.tail.val v, tail := s.tx.tail + 1 }
    sink := s.sink ++ [v]
    result := .nothing } := by
  rw [← s.tx.enqueue_eq_ite]
  rfl

/-! The dispatch of a write (R110). -/

/-- The effect of the write of a byte to an offset. -/
def writeEffect (off v : Byte) : Effect :=
  if off = 0x00 then .transmit v
  else if off = 0x01 then .store .IER v
  else if off = 0x02 then .store .FCR v
  else if off = 0x03 then .store .LCR v
  else if off = 0x04 then .store .MCR v
  else if off = 0x07 then .store .SCR v
  else .answer .nothing

/-- LSR, MSR and the five rows of an unmapped offset have one effect. The decoder asks for SCR between them, so SCR is a
case of its own; elsewhere the decoder's choice among the seven does not matter. -/
theorem effectOf_decodeWrite (off v : Byte) : effectOf (decodeWrite off v) = some (writeEffect off v) := by
  by_cases hSCR : off = Config.offSCR
  · rw [hSCR]
    rfl
  · have hSCR' : off ≠ 0x07 := hSCR
    simp only [decodeWrite, writeEffect, if_neg hSCR, if_neg hSCR', apply_ite effectOf, apply_ite some]
    simp only [effectOf, ite_self]
    rfl

/-- Settles O9: the word decodes to the write of its offset, and each arm of the dispatch is the effect of that
write. -/
theorem busWriteDispatchesOnTheOffset : Obligations.BusWriteDispatchesOnTheOffset := by
  intro off v s hs
  have heffect : effectOf (decode (packCommand 0 true off v)) = some (writeEffect off v) := by
    rw [decode_pack]
    exact effectOf_decodeWrite off v
  rw [exec_of_effectOf_of_ready heffect hs, ← Effect.apply_transmit_eq, writeEffect]
  congr 1
  split_ifs <;> rfl

/-- Settles O6: the two clauses are the two branches of the enqueue. -/
theorem wrThrEnqueuesAndAlwaysReachesTheSink : Obligations.WrThrEnqueuesAndAlwaysReachesTheSink := by
  refine ⟨fun _ => decode_of_matches (i := .wrThr 0), fun v s hs => ?_⟩
  rw [exec_of_effectOf_of_ready (e := .transmit v) rfl hs, Effect.apply_transmit_eq]
  exact ⟨fun hfull => by rw [if_pos hfull], fun hroom => by rw [if_neg hroom]⟩

/-- Settles O7: each of these writes stores to its register. -/
theorem wrStoredRegisterReplacesItAlone : Obligations.WrStoredRegisterReplacesItAlone := by
  refine ⟨fun _ => ⟨decode_of_matches (i := .wrIer 0), decode_of_matches (i := .wrFcr 0),
    decode_of_matches (i := .wrLcr 0), decode_of_matches (i := .wrMcr 0), decode_of_matches (i := .wrScr 0)⟩,
    fun v s hs => ?_⟩
  have hstore (r : Reg) {i : Instr} (he : effectOf i = some (.store r v)) :
      exec i s = .next { s.writeReg r v with result := .nothing } := exec_of_effectOf_of_ready he hs
  exact ⟨hstore .IER rfl, hstore .FCR rfl, hstore .LCR rfl, hstore .MCR rfl, hstore .SCR rfl⟩

/-- Settles O8: the seven rows only answer that nothing is returned, whatever the offset and the byte. -/
theorem wrLsrMsrUnmappedAreDiscarded : Obligations.WrLsrMsrUnmappedAreDiscarded := by
  refine ⟨fun _ => ⟨decode_of_matches (i := .wrLsr 0), decode_of_matches (i := .wrMsr 0),
    decode_of_matches (i := .wrUnmapped08 0 0), decode_of_matches (i := .wrUnmapped10 0 0),
    decode_of_matches (i := .wrUnmapped20 0 0), decode_of_matches (i := .wrUnmapped40 0 0),
    decode_of_matches (i := .wrUnmapped80 0 0)⟩, fun off v s hs => ?_⟩
  have hdiscard {i : Instr} (he : effectOf i = some (.answer .nothing)) :
      exec i s = .next { s with result := .nothing } := exec_of_effectOf_of_ready he hs
  exact ⟨hdiscard rfl, hdiscard rfl, hdiscard rfl, hdiscard rfl, hdiscard rfl, hdiscard rfl, hdiscard rfl⟩

end Sys2Proof.Machine
end

section
/-!
Line-side and byte-level ports (44_line_byte_ports.md): the four rows as the enqueues and dequeues of the FIFO engine,
by its cursors.
-/
namespace Sys2Proof.Machine

theorem Fifo.dequeue_eq_ite (F : Fifo) (d : Byte) : F.dequeue d =
    if F.head = F.tail then (d, F) else (F.buf[F.head.val], { F with head := F.head + 1 }) := by
  simp only [Fifo.dequeue, F.isEmpty_iff, advance_eq_add_one]

theorem State.popTx_of_head_eq_tail {s : State} (h : s.tx.head = s.tx.tail) :
    s.popTx = { s with result := .byte 0x00 } :=
  State.popTx_of_empty (s.tx.isEmpty_iff_count.1 (s.tx.isEmpty_iff.2 h))

theorem State.popTx_of_head_ne_tail {s : State} (h : s.tx.head ≠ s.tx.tail) :
    s.popTx = { s with
      tx := { s.tx with head := s.tx.head + 1 }
      result := .byte s.tx.buf[s.tx.head.val] } := by
  rw [State.popTx, s.tx.dequeue_eq_ite, if_neg h, State.setResult, State.setTx]

/-- After an enqueue a byte is pending: the new one, or, had the FIFO no room for it, those that filled it. -/
theorem Fifo.pending_enqueue_ne_nil (F : Fifo) (b : Byte) : (F.enqueue b).pending ≠ [] := by
  rw [F.pending_enqueue]
  simp

theorem dataReady_pushRx (s : State) (v : Byte) : dataReady (s.pushRx v) = true := by
  rw [dataReady_iff_count, ← Fifo.length_pending, State.pushRx_rx]
  exact mt List.eq_nil_of_length_eq_zero (s.rx.pending_enqueue_ne_nil v)

theorem Effect.apply_pushRx_eq (v : Byte) (s : State) : (Effect.pushRx v).apply s = { s with
    rx := if s.rx.tail + 1 = s.rx.head then s.rx
      else { s.rx with buf := s.rx.buf.set s.rx.tail.val v, tail := s.rx.tail + 1 }
    result := .nothing } := by
  rw [← s.rx.enqueue_eq_ite]
  rfl

/-- The enqueue of the write to THR without its byte for the sink (R123). -/
theorem Effect.apply_pushTx_eq (v : Byte) (s : State) : (Effect.pushTx v).apply s = { s with
    tx := if s.tx.tail + 1 = s.tx.head then s.tx
      else { s.tx with buf := s.tx.buf.set s.tx.tail.val v, tail := s.tx.tail + 1 }
    result := .nothing } := by
  rw [← s.tx.enqueue_eq_ite]
  rfl

/-- Settles O13: the first two clauses are the two branches of the enqueue, and either leaves a byte pending. -/
theorem rxpushEnqueuesIntoReceiveFifo : Obligations.RxpushEnqueuesIntoReceiveFifo := by
  refine ⟨fun _ => decode_of_matches (i := .rxpush 0), fun v s hs => ?_⟩
  have hpush : exec (.rxpush v) s = .next ((Effect.pushRx v).apply s) := exec_of_effectOf_of_ready rfl hs
  refine ⟨fun hfull => ?_, fun hroom => ?_, fun t ht => ?_⟩
  · rw [hpush, Effect.apply_pushRx_eq, if_pos hfull]
  · rw [hpush, Effect.apply_pushRx_eq, if_neg hroom]
  · obtain rfl : (Effect.pushRx v).apply s = t := Host.Outcome.next.inj (hpush.symm.trans ht)
    exact dataReady_pushRx s v

/-- Settles O14: the dequeue finds the transmit FIFO empty or takes the byte at its head. -/
theorem txpopDequeuesTransmitFifo : Obligations.TxpopDequeuesTransmitFifo := by
  refine ⟨fun _ => decode_of_matches (i := .txpop), fun s hs => ?_⟩
  have hpop : exec .txpop s = .next s.popTx := exec_of_effectOf_of_ready (e := .popTx) rfl hs
  exact ⟨fun hempty => by rw [hpop, State.popTx_of_head_eq_tail hempty],
    fun hsome => by rw [hpop, State.popTx_of_head_ne_tail hsome]⟩

/-- Settles O15: BRD and the read of RBR have one effect, so what O1 says of the read holds of BRD. -/
theorem brdDequeuesReceiveFifoAsRdRbr : Obligations.BrdDequeuesReceiveFifoAsRdRbr := by
  refine ⟨fun _ => decode_of_matches (i := .brd), fun s hs => ?_⟩
  have hsame : exec .brd s = exec .rdRbr s :=
    (exec_of_effectOf (e := .popRx) rfl s).trans (exec_of_effectOf (e := .popRx) rfl s).symm
  rw [hsame]
  exact ⟨rfl, rdRbrDequeuesReceiveFifo.2 s hs⟩

/-- Settles O16: the two clauses are the two branches of the enqueue; the sink is no part of either. -/
theorem bwrEnqueuesWithoutTheSink : Obligations.BwrEnqueuesWithoutTheSink := by
  refine ⟨fun _ => decode_of_matches (i := .bwr 0), fun v s hs => ?_⟩
  rw [exec_of_effectOf_of_ready (e := .pushTx v) rfl hs, Effect.apply_pushTx_eq]
  exact ⟨fun hfull => by rw [if_pos hfull], fun hroom => by rw [if_neg hroom]⟩

end Sys2Proof.Machine
end

section
/-!
Lifecycle and diagnostics (45_lifecycle_diag.md): what `INIT` makes of the receive FIFO, the states `INIT` and
`TEARDOWN` leave, the two counts, and the lifecycle machine.
-/
namespace Sys2Proof.Machine

/-! The counts (R132), which every enqueue and dequeue moves by at most one. -/

theorem Fifo.occupiedCount_enqueue (F : Fifo) (b : Byte) :
    (F.enqueue b).occupiedCount = min (F.occupiedCount + 1) 15 := by
  rw [← Fifo.length_pending, F.pending_enqueue, List.length_take, List.length_append, F.length_pending,
    List.length_singleton, Nat.min_comm]

theorem Fifo.occupiedCount_dequeue (F : Fifo) (d : Byte) : (F.dequeue d).2.occupiedCount = F.occupiedCount - 1 := by
  rw [← Fifo.length_pending, F.pending_dequeue, List.length_tail, F.length_pending]

/-! The FIFO that `INIT` loads. -/

theorem Fifo.pending_loaded (bytes : List Byte) : (Fifo.loaded bytes).pending = bytes.take 15 :=
  Fifo.pending_foldl_enqueue bytes Fifo.cleared

theorem Fifo.occupiedCount_loaded (bytes : List Byte) :
    (Fifo.loaded bytes).occupiedCount = min bytes.length 15 := by
  rw [← Fifo.length_pending, Fifo.pending_loaded, List.length_take, Nat.min_comm]

theorem Fifo.isEmpty_loaded (bytes : List Byte) : (Fifo.loaded bytes).isEmpty = true ↔ bytes = [] := by
  simp [Fifo.isEmpty_eq_pending, Fifo.pending_loaded]

theorem Fifo.cleared_buf : ∀ i : Fin 16, Fifo.cleared.buf[i.val] = 0x00 := by decide

/-- A FIFO as it is while bytes have only been enqueued since it was cleared: the head at slot 0, the pending bytes in
the slots from there on, and every other slot still cleared. -/
def Fifo.Fresh (F : Fifo) : Prop :=
  F.head = 0 ∧ ∀ i : Fin 16, F.buf[i.val] = F.pending.getD i.val 0x00

theorem Fifo.Fresh.tail_eq {F : Fifo} (h : F.Fresh) : F.tail.val = F.occupiedCount := by
  have ht := cursor_lt F.tail
  obtain ⟨hhead, -⟩ := h
  rw [F.occupiedCount_eq, hhead, Fin.val_zero]
  omega

theorem Fifo.fresh_cleared : Fifo.cleared.Fresh := ⟨rfl, Fifo.cleared_buf⟩

/-- The byte an enqueue stores goes into the slot whose position is the number of pending bytes, which is its position
in the new pending list. -/
theorem Fifo.Fresh.enqueue {F : Fifo} (h : F.Fresh) (b : Byte) : (F.enqueue b).Fresh := by
  rcases F.enqueue_cases b with ⟨-, hF⟩ | ⟨hroom, hF⟩
  · rwa [hF]
  · have htail : F.tail.val = F.pending.length := h.tail_eq.trans F.length_pending.symm
    obtain ⟨hhead, hbuf⟩ := h
    rw [hF]
    refine ⟨hhead, fun i => ?_⟩
    rw [F.pending_store b hroom, Vector.getElem_set, htail]
    rcases lt_trichotomy i.val F.pending.length with hlt | heq | hgt
    · rw [if_neg hlt.ne', List.getD_append _ _ _ _ hlt, hbuf]
    · rw [if_pos heq.symm, List.getD_append_right _ _ _ _ heq.ge, heq, Nat.sub_self, List.getD_cons_zero]
    · rw [if_neg hgt.ne, hbuf, List.getD_eq_default _ _ hgt.le, List.getD_eq_default]
      rw [List.length_append, List.length_singleton]
      omega

theorem Fifo.fresh_loaded (bytes : List Byte) : (Fifo.loaded bytes).Fresh :=
  List.foldlRecOn bytes Fifo.enqueue Fifo.fresh_cleared fun _ h b _ => h.enqueue b

/-! What `INIT` and `TEARDOWN` leave. -/

/-- The reset state with the four components of `s` that neither `INIT` nor `TEARDOWN` forgets: the sink, the
parameter, the requests and the count of free values. -/
def State.forget (s : State) : State :=
  { State.reset with sink := s.sink, preload := s.preload, requests := s.requests, freeDraws := s.freeDraws }

theorem State.forget_congr {s u : State} (hpreload : s.preload = u.preload) (hsink : s.sink = u.sink)
    (hrequests : s.requests = u.requests) (hdraws : s.freeDraws = u.freeDraws) : s.forget = u.forget := by
  rw [State.forget, State.forget, hpreload, hsink, hrequests, hdraws]

/-- The reset state of 10_state.md R35, with the preload in the receive FIFO. -/
def State.initialized (s : State) : State := s.forget.setRx (Fifo.loaded s.preload)

theorem exec_init (s : State) : exec .init s = .next s.initialized := rfl

theorem State.initialized_initialized (s : State) : s.initialized.initialized = s.initialized := rfl

@[simp] theorem State.initialized_rx (s : State) : s.initialized.rx = Fifo.loaded s.preload := rfl

theorem dataReady_initialized (s : State) : dataReady s.initialized = true ↔ s.preload ≠ [] := by
  rw [dataReady, Bool.not_eq_true', Bool.eq_false_iff, State.initialized_rx, ne_eq, Fifo.isEmpty_loaded]

theorem lsr_initialized (s : State) : lsr s.initialized = if s.preload = [] then 0x60 else 0x61 := by
  simp only [lsr_eq_ite_isEmpty, State.initialized_rx, Fifo.isEmpty_loaded]

theorem exec_teardown (s : State) : exec .teardown s = .next (s.forget.drawRegisters.setLife .uninitialized) := rfl

/-! The operations outside the lifecycle. -/

theorem eq_apply_of_exec_eq_next {i : Instr} {e : Effect} {s t : State} (he : effectOf i = some e)
    (h : exec i s = .next t) : t = e.apply s := by
  rw [exec_of_effectOf he, whenReady_eq_next] at h
  exact h.2.symm

theorem exec_of_effectOf_of_uninitialized {i : Instr} {e : Effect} {s : State} (he : effectOf i = some e)
    (hs : s.life = .uninitialized) : exec i s = .refused .uninitialized :=
  (exec_of_effectOf he s).trans (whenReady_of_uninitialized hs)

theorem exists_effectOf {i : Instr} (hlife : i.isLifecycle = false) (hres : i.isReserved = false) :
    ∃ e, effectOf i = some e := by
  rcases instr_cases i with rfl | rfl | hr | he
  · cases hlife
  · cases hlife
  · exact absurd (hres.symm.trans hr) nofun
  · exact he

/-- Settles O17: the loaded receive FIFO is fresh and holds the preload's first 15 bytes; the rest of the state is the
reset state, and the parameter that a second INIT would load is kept. -/
theorem initResetsAndPreloads : Obligations.InitResetsAndPreloads := by
  refine ⟨fun _ => decode_of_matches (i := .init), fun s => ⟨_, exec_init s, ?_⟩⟩
  have hfresh : s.initialized.rx.Fresh := Fifo.fresh_loaded s.preload
  have hpending : s.initialized.rx.pending = s.preload.take 15 := Fifo.pending_loaded s.preload
  have hcount : s.initialized.rx.occupiedCount = min s.preload.length 15 := Fifo.occupiedCount_loaded s.preload
  have htxCount : s.initialized.tx.occupiedCount = 0 := Fifo.occupiedCount_loaded []
  have htail := hfresh.tail_eq.trans hcount
  have hrdLsr : exec .rdLsr s.initialized = .next (Effect.status.apply s.initialized) :=
    exec_of_effectOf_of_ready rfl rfl
  have hfstat : exec .fstat s.initialized = .next (Effect.counts.apply s.initialized) :=
    exec_of_effectOf_of_ready rfl rfl
  have hagain : exec .init s.initialized = .next s.initialized := by rw [exec_init, State.initialized_initialized]
  obtain ⟨hhead, hbuf⟩ := hfresh
  rw [hpending] at hbuf
  rw [Effect.apply, lsr_initialized] at hrdLsr
  rw [Effect.apply, hcount, htxCount] at hfstat
  exact ⟨rfl, hhead, htail, hbuf, rfl, rfl, Fifo.cleared_buf, rfl, rfl, rfl, rfl, rfl, rfl, rfl, hpending,
    dataReady_initialized s, hrdLsr, hfstat, hagain, rfl, rfl, rfl, rfl, rfl⟩

/-- Settles O19: a FIFO's count is the length of its pending list, which an enqueue lengthens up to 15 and a dequeue
shortens down to 0. -/
theorem fstatReturnsTheTwoCounts : Obligations.FstatReturnsTheTwoCounts := by
  refine ⟨fun _ => decode_of_matches (i := .fstat), fun s hs => ?_⟩
  have hcounts : exec .fstat s = .next { s with result := .counts s.rx.occupiedCount s.tx.occupiedCount } :=
    exec_of_effectOf_of_ready (e := .counts) rfl hs
  refine ⟨by rw [hcounts, Fifo.length_pending, Fifo.length_pending], hcounts, s.rx.occupiedCount_le,
    s.tx.occupiedCount_le, ?_, ?_, ?_, ?_⟩
  · rintro v t (h | h)
    · obtain rfl := eq_apply_of_exec_eq_next (e := .transmit v) rfl h
      exact s.tx.occupiedCount_enqueue v
    · obtain rfl := eq_apply_of_exec_eq_next (e := .pushTx v) rfl h
      exact s.tx.occupiedCount_enqueue v
  · intro t h
    obtain rfl := eq_apply_of_exec_eq_next (e := .popTx) rfl h
    exact s.tx.occupiedCount_dequeue _
  · intro v t h
    obtain rfl := eq_apply_of_exec_eq_next (e := .pushRx v) rfl h
    exact s.rx.occupiedCount_enqueue v
  · intro t h
    obtain rfl : t = s.popRx :=
      h.elim (eq_apply_of_exec_eq_next (e := .popRx) rfl) (eq_apply_of_exec_eq_next (e := .popRx) rfl)
    exact s.rx.occupiedCount_dequeue _

/-- Settles O21: INIT and TEARDOWN complete from every state and read of it only what `State.forget` keeps; every other
operation keeps the lifecycle state or is refused. -/
theorem lifecycleMachineHasSixTransitions : Obligations.LifecycleMachineHasSixTransitions := by
  refine ⟨fun s => ⟨_, exec_init s, rfl⟩, fun s => ⟨_, exec_teardown s, rfl⟩, fun i s hlife hres hs => ?_,
    fun i s hlife hs => ?_, fun _ => rfl, fun s u hpreload hsink hrequests hdraws => ?_⟩
  · obtain ⟨e, he⟩ := exists_effectOf hlife hres
    exact ⟨_, exec_of_effectOf_of_ready he hs, (e.apply_life s).trans hs⟩
  · cases hres : i.isReserved with
    | true => exact ⟨_, exec_of_reserved hres s⟩
    | false =>
      obtain ⟨e, he⟩ := exists_effectOf hlife hres
      exact ⟨_, exec_of_effectOf_of_uninitialized he hs⟩
  · have hforget : s.forget = u.forget := State.forget_congr hpreload hsink hrequests hdraws
    rw [exec_init, exec_init, exec_teardown, exec_teardown, State.initialized, State.initialized, hforget, hpreload]
    exact ⟨rfl, rfl⟩

/-- Settles O18: the FIFOs are those of the reset state, cleared, and drawing registers and setting the lifecycle state
leaves them and the inputs. -/
theorem teardownClearsTheFifos : Obligations.TeardownClearsTheFifos := by
  refine ⟨fun _ => decode_of_matches (i := .teardown), fun s => ⟨_, exec_teardown s, ?_⟩⟩
  exact ⟨rfl, rfl, rfl, rfl, rfl, fun i => ⟨Fifo.cleared_buf i, Fifo.cleared_buf i⟩, rfl, rfl, rfl, rfl⟩

/-- Settles O20: an operation outside the lifecycle and the reserved rows has an effect, which waits for the Ready
state; INIT and TEARDOWN do not ask for it. -/
theorem uninitializedRefusesAllButInitAndTeardown : Obligations.UninitializedRefusesAllButInitAndTeardown := by
  refine fun s hs => ⟨fun i hlife hres => ?_, fun i hi => ?_⟩
  · obtain ⟨e, he⟩ := exists_effectOf hlife hres
    exact exec_of_effectOf_of_uninitialized he hs
  · cases i with
    | init => exact ⟨_, exec_init s⟩
    | teardown => exact ⟨_, exec_teardown s⟩
    | _ => cases hi

end Sys2Proof.Machine
end

section
/-!
Totality (60_exceptions.md R140): in the Ready state every operation completes, and all but `TEARDOWN` leave the block
Ready, so a run whose requests name such operations carries them all out.
-/
namespace Sys2Proof.Machine

/-- What an operation does to a Ready block: it completes, and only `TEARDOWN` ends the Ready state. -/
theorem exec_completes_of_ready {i : Instr} {s : State} (hs : s.life = .ready) (hi : i.isReserved = false) :
    ∃ t, exec i s = .next t ∧ (i ≠ .teardown → t.life = .ready) := by
  rcases instr_cases i with rfl | rfl | hr | ⟨e, he⟩
  · exact ⟨_, exec_init s, fun _ => rfl⟩
  · exact ⟨_, exec_teardown s, absurd rfl⟩
  · exact absurd (hi.symm.trans hr) nofun
  · exact ⟨_, exec_of_effectOf_of_ready he hs, fun _ => (e.apply_life s).trans hs⟩

/-- Settles O23: there is no fault to end in (log 13), and completion is `exec_completes_of_ready`. -/
theorem everyOperationCompletesWhenReady : Obligations.EveryOperationCompletesWhenReady := by
  refine ⟨fun _ _ f => (nomatch f), fun i s hs hi => ?_⟩
  obtain ⟨t, ht, -⟩ := exec_completes_of_ready hs hi
  exact ⟨t, ht⟩

/-- The request is one byte wide and names an operation other than `TEARDOWN`. -/
def Request.KeepsReady (r : Request) : Prop :=
  ∃ c, r.commandWord = some c ∧ (decode c).isReserved = false ∧ decode c ≠ .teardown

/-- A Ready block with such requests steps to a Ready block with the first of them taken, or none when there is none. -/
theorem step_of_keepsReady {s : State} (hs : s.life = .ready) (hreq : ∀ r ∈ s.requests, r.KeepsReady) :
    ∃ t, step s = .next t ∧ t.life = .ready ∧ t.requests = s.requests.drop 1 := by
  cases hq : s.requests with
  | nil => exact ⟨s, by rw [step, takeRequest_nil hq, idle], hs, hq⟩
  | cons r rest =>
    obtain ⟨c, hc, hres, htear⟩ := hreq r (by rw [hq]; exact List.mem_cons_self)
    obtain ⟨t, ht, hlife⟩ := exec_completes_of_ready (s := { s with requests := rest }) hs hres
    exact ⟨t, (step_of_commandWord hq hc).trans ht, hlife htear, (exec_inputs ht).2⟩

/-- Settles O41, by induction on the number of steps, over all such states: each step leaves a Ready block, and the
requests it leaves are among those it found. -/
theorem readyRunsAreNeverRefused : Obligations.ReadyRunsAreNeverRefused := by
  intro s hs hreq k
  induction k generalizing s with
  | zero => exact ⟨s, run_zero s, hs, rfl⟩
  | succ k ih =>
    obtain ⟨u, hstep, hu, hqu⟩ := step_of_keepsReady hs hreq
    obtain ⟨t, hrun, ht, hqt⟩ := ih u hu fun r hr => hreq r (List.mem_of_mem_drop (hqu ▸ hr))
    refine ⟨t, (run_succ_of_next hstep).trans hrun, ht, ?_⟩
    rw [hqt, hqu, List.drop_drop, Nat.add_comm]

end Sys2Proof.Machine
end

section
/-!
Reset and hazards (70_reset_and_hazards.md): the way out of power-on, the poll of LSR before a read of RBR, and `PUTS`
as a run of effects.
-/
namespace Sys2Proof.Machine

/-- INIT from power-on loads the preload into the reset state: power-on has cleared the sink, and INIT forgets the
registers and the FIFOs it finds (R162). -/
theorem State.initialized_powerOn (any : State) : (State.powerOn any).initialized =
    { State.reset with
      rx := Fifo.loaded any.preload
      preload := any.preload
      requests := any.requests
      freeDraws := any.freeDraws } := rfl

/-- Settles O24: power-on is an Uninitialized state, which refuses what the lifecycle machine says it does, and INIT
leaves the reset state but for the preload and the model's own fields. -/
theorem powerOnNeedsInit : Obligations.PowerOnNeedsInit := by
  obtain ⟨-, -, -, hrefused, -⟩ := lifecycleMachineHasSixTransitions
  refine fun any => ⟨fun i hi => hrefused i _ hi rfl, _, exec_init _, rfl, fun _ => ⟨rfl, rfl⟩, fun hpreload => ?_⟩
  rw [State.initialized_powerOn, hpreload]
  rfl

/-- Settles O31: bit 0 of LSR tells whether the receive FIFO holds a byte; the read of LSR changes
the result alone, so the dequeue after it finds that byte, or none. -/
theorem pollingLsrTellsWhatRbrReturns : Obligations.PollingLsrTellsWhatRbrReturns := by
  intro s hs
  have hpoll : exec .rdLsr s = .next (s.setResult (.byte (lsr s))) := exec_of_effectOf_of_ready (e := .status) rfl hs
  have hread : exec .rdRbr (s.setResult (.byte (lsr s))) = .next s.popRx :=
    exec_of_effectOf_of_ready (e := .popRx) rfl hs
  obtain ⟨hbit, -⟩ := lsrBitsFollowTheirRules s
  refine ⟨lsr s, _, _, hpoll, rfl, hread, fun hset => ?_, fun hclear => ?_⟩
  · have hpending := s.rx.pending_advance (hbit.1 hset)
    have hcount := Fifo.count_pos_of_not_empty (hbit.1 hset)
    refine ⟨_, _, hpending, ?_, ?_, ?_⟩
    · rw [State.popRx_result, Fifo.dequeue_fst, hpending, List.headD_cons]
    · rw [State.popRx_rx, Fifo.pending_dequeue, hpending, List.tail_cons]
    · rw [State.popRx_rx, Fifo.occupiedCount_dequeue, Nat.sub_add_cancel hcount]
  · have hempty : s.rx.isEmpty = true := by
      rw [← Bool.not_eq_false, ← hbit, hclear]
      exact nofun
    rw [State.popRx_of_empty (s.rx.isEmpty_iff_count.1 hempty)]
    exact ⟨rfl, rfl⟩

theorem puts_effects : (bytes : List Byte) → List.Forall₂ Request.HasEffect (puts bytes) (bytes.map .transmit)
  | [] => .nil
  | v :: bytes => .cons ⟨_, rfl, by rw [decode_pack]; rfl⟩ (puts_effects bytes)

/-- Writes to THR enqueue their bytes and hand them all to the sink; beside these only the result changes. -/
theorem Effect.applyAll_transmit (bytes : List Byte) (s : State) : ∃ r, applyAll (bytes.map .transmit) s =
    { s with tx := bytes.foldl Fifo.enqueue s.tx, sink := s.sink ++ bytes, result := r } := by
  induction bytes generalizing s with
  | nil => exact ⟨s.result, by rw [List.append_nil]; rfl⟩
  | cons v bytes ih =>
    obtain ⟨r, hr⟩ := ih ((Effect.transmit v).apply s)
    refine ⟨r, hr.trans ?_⟩
    rw [← List.singleton_append, ← List.append_assoc]
    rfl

/-- Settles O42: the run applies one write to THR for each byte; the enqueues keep what fits in 15 bytes, the sink takes
all. -/
theorem putsFillsTheTransmitFifoToFifteen : Obligations.PutsFillsTheTransmitFifoToFifteen := by
  intro bytes rest s hs hq
  have hrun := run_of_effects (puts_effects bytes) hs hq
  obtain ⟨r, hr⟩ := Effect.applyAll_transmit bytes { s with requests := rest }
  rw [puts, List.length_map, hr] at hrun
  exact ⟨_, hrun, Fifo.pending_foldl_enqueue bytes s.tx, rfl, rfl, hs, rfl, rfl, rfl, rfl, rfl, rfl, rfl, rfl, rfl⟩

end Sys2Proof.Machine
end

section
/-! The reset state, component by component (10_state.md R35). -/
namespace Sys2Proof.Machine

/-- Settles O34: every component but the slots is read off the definition of the reset state, and both FIFOs are the
cleared one. -/
theorem resetStateIsAsTabulated : Obligations.ResetStateIsAsTabulated := by
  have hslots : ∀ i : Fin 16, State.reset.rx.buf[i.val] = 0x00 ∧ State.reset.tx.buf[i.val] = 0x00 :=
    fun i => ⟨Fifo.cleared_buf i, Fifo.cleared_buf i⟩
  exact ⟨rfl, rfl, rfl, rfl, rfl, hslots, rfl, rfl, rfl, rfl, rfl, rfl, rfl, rfl, rfl, rfl, rfl⟩

end Sys2Proof.Machine
end
